-- ==== Sys2Proof/Word.lean ====
section
/-! DEFINITION. The two word types of the core: data bytes (8 bits) and bus addresses (16 bits), R4. -/

namespace Sys2Proof

/-- A data byte: "data width 8 bits" (R4). -/
abbrev Byte := BitVec 8

/-- A bus address or `PC` value: "address width 16 bits" (R4). -/
abbrev Addr := BitVec 16

end Sys2Proof
end

