-- ==== Sys2Proof/Syntax.lean ====
section
/-! DEFINITION. The instructions: one constructor per row of spec/opcode_table.json (204 populated opcode bytes, R76),
carrying the operand bytes its format has (R71): `v` an immediate byte, `z` a zero-page address byte, `d` a branch
displacement byte, `w` a 16-bit operand (low byte first in memory). The constructors follow the order of the table. -/

namespace Sys2Proof

/-- The instruction set, by opcode byte (R78, R79). -/
inductive Instr where
  /-- `00`: BRK imp, R192. -/
  | brk
  /-- `01`: ORA izx, R146. -/
  | oraIzx (z : Byte)
  /-- `03`: SLO izx, R221. -/
  | sloIzx (z : Byte)
  /-- `04`: NOP zp, R229. -/
  | nopZp04 (z : Byte)
  /-- `05`: ORA zp, R146. -/
  | oraZp (z : Byte)
  /-- `06`: ASL zp, R171. -/
  | aslZp (z : Byte)
  /-- `07`: SLO zp, R221. -/
  | sloZp (z : Byte)
  /-- `08`: PHP imp, R202. -/
  | php
  /-- `09`: ORA imm, R146. -/
  | oraImm (v : Byte)
  /-- `0A`: ASL acc, R171. -/
  | aslAcc
  /-- `0C`: NOP abs, R231. -/
  | nopAbs0C (w : Addr)
  /-- `0D`: ORA abs, R146. -/
  | oraAbs (w : Addr)
  /-- `0E`: ASL abs, R171. -/
  | aslAbs (w : Addr)
  /-- `0F`: SLO abs, R221. -/
  | sloAbs (w : Addr)
  /-- `10`: BPL rel, R181. -/
  | bplRel (d : Byte)
  /-- `11`: ORA izy, R146. -/
  | oraIzy (z : Byte)
  /-- `13`: SLO izy, R221. -/
  | sloIzy (z : Byte)
  /-- `14`: NOP zpx, R230. -/
  | nopZpx14 (z : Byte)
  /-- `15`: ORA zpx, R146. -/
  | oraZpx (z : Byte)
  /-- `16`: ASL zpx, R171. -/
  | aslZpx (z : Byte)
  /-- `17`: SLO zpx, R221. -/
  | sloZpx (z : Byte)
  /-- `18`: CLC imp, R205. -/
  | clc
  /-- `19`: ORA aby, R146. -/
  | oraAby (w : Addr)
  /-- `1A`: NOP imp, R227. -/
  | nopImp1A
  /-- `1B`: SLO aby, R221. -/
  | sloAby (w : Addr)
  /-- `1C`: NOP abx, R232. -/
  | nopAbx1C (w : Addr)
  /-- `1D`: ORA abx, R146. -/
  | oraAbx (w : Addr)
  /-- `1E`: ASL abx, R171. -/
  | aslAbx (w : Addr)
  /-- `1F`: SLO abx, R221. -/
  | sloAbx (w : Addr)
  /-- `20`: JSR abs, R190. -/
  | jsrAbs (w : Addr)
  /-- `21`: AND izx, R145. -/
  | andIzx (z : Byte)
  /-- `24`: BIT zp, R148. -/
  | bitZp (z : Byte)
  /-- `25`: AND zp, R145. -/
  | andZp (z : Byte)
  /-- `26`: ROL zp, R173. -/
  | rolZp (z : Byte)
  /-- `28`: PLP imp, R204. -/
  | plp
  /-- `29`: AND imm, R145. -/
  | andImm (v : Byte)
  /-- `2A`: ROL acc, R173. -/
  | rolAcc
  /-- `2C`: BIT abs, R148. -/
  | bitAbs (w : Addr)
  /-- `2D`: AND abs, R145. -/
  | andAbs (w : Addr)
  /-- `2E`: ROL abs, R173. -/
  | rolAbs (w : Addr)
  /-- `30`: BMI rel, R182. -/
  | bmiRel (d : Byte)
  /-- `31`: AND izy, R145. -/
  | andIzy (z : Byte)
  /-- `34`: NOP zpx, R230. -/
  | nopZpx34 (z : Byte)
  /-- `35`: AND zpx, R145. -/
  | andZpx (z : Byte)
  /-- `36`: ROL zpx, R173. -/
  | rolZpx (z : Byte)
  /-- `38`: SEC imp, R206. -/
  | sec
  /-- `39`: AND aby, R145. -/
  | andAby (w : Addr)
  /-- `3A`: NOP imp, R227. -/
  | nopImp3A
  /-- `3C`: NOP abx, R232. -/
  | nopAbx3C (w : Addr)
  /-- `3D`: AND abx, R145. -/
  | andAbx (w : Addr)
  /-- `3E`: ROL abx, R173. -/
  | rolAbx (w : Addr)
  /-- `40`: RTI imp, R193. -/
  | rti
  /-- `41`: EOR izx, R147. -/
  | eorIzx (z : Byte)
  /-- `44`: NOP zp, R229. -/
  | nopZp44 (z : Byte)
  /-- `45`: EOR zp, R147. -/
  | eorZp (z : Byte)
  /-- `46`: LSR zp, R172. -/
  | lsrZp (z : Byte)
  /-- `48`: PHA imp, R201. -/
  | pha
  /-- `49`: EOR imm, R147. -/
  | eorImm (v : Byte)
  /-- `4A`: LSR acc, R172. -/
  | lsrAcc
  /-- `4B`: ALR imm, R223. -/
  | alrImm (v : Byte)
  /-- `4C`: JMP abs, R189. -/
  | jmpAbs (w : Addr)
  /-- `4D`: EOR abs, R147. -/
  | eorAbs (w : Addr)
  /-- `4E`: LSR abs, R172. -/
  | lsrAbs (w : Addr)
  /-- `50`: BVC rel, R183. -/
  | bvcRel (d : Byte)
  /-- `51`: EOR izy, R147. -/
  | eorIzy (z : Byte)
  /-- `54`: NOP zpx, R230. -/
  | nopZpx54 (z : Byte)
  /-- `55`: EOR zpx, R147. -/
  | eorZpx (z : Byte)
  /-- `56`: LSR zpx, R172. -/
  | lsrZpx (z : Byte)
  /-- `58`: CLI imp, R207. -/
  | cli
  /-- `59`: EOR aby, R147. -/
  | eorAby (w : Addr)
  /-- `5A`: NOP imp, R227. -/
  | nopImp5A
  /-- `5C`: NOP abx, R232. -/
  | nopAbx5C (w : Addr)
  /-- `5D`: EOR abx, R147. -/
  | eorAbx (w : Addr)
  /-- `5E`: LSR abx, R172. -/
  | lsrAbx (w : Addr)
  /-- `60`: RTS imp, R191. -/
  | rts
  /-- `61`: ADC izx, R141. -/
  | adcIzx (z : Byte)
  /-- `64`: NOP zp, R229. -/
  | nopZp64 (z : Byte)
  /-- `65`: ADC zp, R141. -/
  | adcZp (z : Byte)
  /-- `66`: ROR zp, R174. -/
  | rorZp (z : Byte)
  /-- `68`: PLA imp, R203. -/
  | pla
  /-- `69`: ADC imm, R141. -/
  | adcImm (v : Byte)
  /-- `6A`: ROR acc, R174. -/
  | rorAcc
  /-- `6C`: JMP ind, R189. -/
  | jmpInd (w : Addr)
  /-- `6D`: ADC abs, R141. -/
  | adcAbs (w : Addr)
  /-- `6E`: ROR abs, R174. -/
  | rorAbs (w : Addr)
  /-- `70`: BVS rel, R184. -/
  | bvsRel (d : Byte)
  /-- `71`: ADC izy, R141. -/
  | adcIzy (z : Byte)
  /-- `74`: NOP zpx, R230. -/
  | nopZpx74 (z : Byte)
  /-- `75`: ADC zpx, R141. -/
  | adcZpx (z : Byte)
  /-- `76`: ROR zpx, R174. -/
  | rorZpx (z : Byte)
  /-- `78`: SEI imp, R208. -/
  | sei
  /-- `79`: ADC aby, R141. -/
  | adcAby (w : Addr)
  /-- `7A`: NOP imp, R227. -/
  | nopImp7A
  /-- `7C`: NOP abx, R232. -/
  | nopAbx7C (w : Addr)
  /-- `7D`: ADC abx, R141. -/
  | adcAbx (w : Addr)
  /-- `7E`: ROR abx, R174. -/
  | rorAbx (w : Addr)
  /-- `80`: NOP imm, R228. -/
  | nopImm80 (v : Byte)
  /-- `81`: STA izx, R124. -/
  | staIzx (z : Byte)
  /-- `82`: NOP imm, R228. -/
  | nopImm82 (v : Byte)
  /-- `83`: SAX izx, R225. -/
  | saxIzx (z : Byte)
  /-- `84`: STY zp, R126. -/
  | styZp (z : Byte)
  /-- `85`: STA zp, R124. -/
  | staZp (z : Byte)
  /-- `86`: STX zp, R125. -/
  | stxZp (z : Byte)
  /-- `87`: SAX zp, R225. -/
  | saxZp (z : Byte)
  /-- `88`: DEY imp, R157. -/
  | dey
  /-- `89`: NOP imm, R228. -/
  | nopImm89 (v : Byte)
  /-- `8A`: TXA imp, R129. -/
  | txa
  /-- `8C`: STY abs, R126. -/
  | styAbs (w : Addr)
  /-- `8D`: STA abs, R124. -/
  | staAbs (w : Addr)
  /-- `8E`: STX abs, R125. -/
  | stxAbs (w : Addr)
  /-- `8F`: SAX abs, R225. -/
  | saxAbs (w : Addr)
  /-- `90`: BCC rel, R185. -/
  | bccRel (d : Byte)
  /-- `91`: STA izy, R124. -/
  | staIzy (z : Byte)
  /-- `94`: STY zpx, R126. -/
  | styZpx (z : Byte)
  /-- `95`: STA zpx, R124. -/
  | staZpx (z : Byte)
  /-- `96`: STX zpy, R125. -/
  | stxZpy (z : Byte)
  /-- `97`: SAX zpy, R225. -/
  | saxZpy (z : Byte)
  /-- `98`: TYA imp, R130. -/
  | tya
  /-- `99`: STA aby, R124. -/
  | staAby (w : Addr)
  /-- `9A`: TXS imp, R132. -/
  | txs
  /-- `9D`: STA abx, R124. -/
  | staAbx (w : Addr)
  /-- `A0`: LDY imm, R123. -/
  | ldyImm (v : Byte)
  /-- `A1`: LDA izx, R121. -/
  | ldaIzx (z : Byte)
  /-- `A2`: LDX imm, R122. -/
  | ldxImm (v : Byte)
  /-- `A3`: LAX izx, R222. -/
  | laxIzx (z : Byte)
  /-- `A4`: LDY zp, R123. -/
  | ldyZp (z : Byte)
  /-- `A5`: LDA zp, R121. -/
  | ldaZp (z : Byte)
  /-- `A6`: LDX zp, R122. -/
  | ldxZp (z : Byte)
  /-- `A7`: LAX zp, R222. -/
  | laxZp (z : Byte)
  /-- `A8`: TAY imp, R128. -/
  | tay
  /-- `A9`: LDA imm, R121. -/
  | ldaImm (v : Byte)
  /-- `AA`: TAX imp, R127. -/
  | tax
  /-- `AC`: LDY abs, R123. -/
  | ldyAbs (w : Addr)
  /-- `AD`: LDA abs, R121. -/
  | ldaAbs (w : Addr)
  /-- `AE`: LDX abs, R122. -/
  | ldxAbs (w : Addr)
  /-- `AF`: LAX abs, R222. -/
  | laxAbs (w : Addr)
  /-- `B0`: BCS rel, R186. -/
  | bcsRel (d : Byte)
  /-- `B1`: LDA izy, R121. -/
  | ldaIzy (z : Byte)
  /-- `B3`: LAX izy, R222. -/
  | laxIzy (z : Byte)
  /-- `B4`: LDY zpx, R123. -/
  | ldyZpx (z : Byte)
  /-- `B5`: LDA zpx, R121. -/
  | ldaZpx (z : Byte)
  /-- `B6`: LDX zpy, R122. -/
  | ldxZpy (z : Byte)
  /-- `B7`: LAX zpy, R222. -/
  | laxZpy (z : Byte)
  /-- `B8`: CLV imp, R211. -/
  | clv
  /-- `B9`: LDA aby, R121. -/
  | ldaAby (w : Addr)
  /-- `BA`: TSX imp, R131. -/
  | tsx
  /-- `BC`: LDY abx, R123. -/
  | ldyAbx (w : Addr)
  /-- `BD`: LDA abx, R121. -/
  | ldaAbx (w : Addr)
  /-- `BE`: LDX aby, R122. -/
  | ldxAby (w : Addr)
  /-- `BF`: LAX aby, R222. -/
  | laxAby (w : Addr)
  /-- `C0`: CPY imm, R151. -/
  | cpyImm (v : Byte)
  /-- `C1`: CMP izx, R149. -/
  | cmpIzx (z : Byte)
  /-- `C2`: NOP imm, R228. -/
  | nopImmC2 (v : Byte)
  /-- `C3`: DCP izx, R226. -/
  | dcpIzx (z : Byte)
  /-- `C4`: CPY zp, R151. -/
  | cpyZp (z : Byte)
  /-- `C5`: CMP zp, R149. -/
  | cmpZp (z : Byte)
  /-- `C6`: DEC zp, R153. -/
  | decZp (z : Byte)
  /-- `C7`: DCP zp, R226. -/
  | dcpZp (z : Byte)
  /-- `C8`: INY imp, R155. -/
  | iny
  /-- `C9`: CMP imm, R149. -/
  | cmpImm (v : Byte)
  /-- `CA`: DEX imp, R156. -/
  | dex
  /-- `CB`: SBX imm, R224. -/
  | sbxImm (v : Byte)
  /-- `CC`: CPY abs, R151. -/
  | cpyAbs (w : Addr)
  /-- `CD`: CMP abs, R149. -/
  | cmpAbs (w : Addr)
  /-- `CE`: DEC abs, R153. -/
  | decAbs (w : Addr)
  /-- `CF`: DCP abs, R226. -/
  | dcpAbs (w : Addr)
  /-- `D0`: BNE rel, R187. -/
  | bneRel (d : Byte)
  /-- `D1`: CMP izy, R149. -/
  | cmpIzy (z : Byte)
  /-- `D3`: DCP izy, R226. -/
  | dcpIzy (z : Byte)
  /-- `D4`: NOP zpx, R230. -/
  | nopZpxD4 (z : Byte)
  /-- `D5`: CMP zpx, R149. -/
  | cmpZpx (z : Byte)
  /-- `D6`: DEC zpx, R153. -/
  | decZpx (z : Byte)
  /-- `D7`: DCP zpx, R226. -/
  | dcpZpx (z : Byte)
  /-- `D8`: CLD imp, R209. -/
  | cld
  /-- `D9`: CMP aby, R149. -/
  | cmpAby (w : Addr)
  /-- `DA`: NOP imp, R227. -/
  | nopImpDA
  /-- `DB`: DCP aby, R226. -/
  | dcpAby (w : Addr)
  /-- `DC`: NOP abx, R232. -/
  | nopAbxDC (w : Addr)
  /-- `DD`: CMP abx, R149. -/
  | cmpAbx (w : Addr)
  /-- `DE`: DEC abx, R153. -/
  | decAbx (w : Addr)
  /-- `DF`: DCP abx, R226. -/
  | dcpAbx (w : Addr)
  /-- `E0`: CPX imm, R150. -/
  | cpxImm (v : Byte)
  /-- `E1`: SBC izx, R143. -/
  | sbcIzx (z : Byte)
  /-- `E2`: NOP imm, R228. -/
  | nopImmE2 (v : Byte)
  /-- `E4`: CPX zp, R150. -/
  | cpxZp (z : Byte)
  /-- `E5`: SBC zp, R143. -/
  | sbcZp (z : Byte)
  /-- `E6`: INC zp, R152. -/
  | incZp (z : Byte)
  /-- `E8`: INX imp, R154. -/
  | inx
  /-- `E9`: SBC imm, R143. -/
  | sbcImm (v : Byte)
  /-- `EA`: NOP imp, R212. -/
  | nop
  /-- `EC`: CPX abs, R150. -/
  | cpxAbs (w : Addr)
  /-- `ED`: SBC abs, R143. -/
  | sbcAbs (w : Addr)
  /-- `EE`: INC abs, R152. -/
  | incAbs (w : Addr)
  /-- `F0`: BEQ rel, R188. -/
  | beqRel (d : Byte)
  /-- `F1`: SBC izy, R143. -/
  | sbcIzy (z : Byte)
  /-- `F4`: NOP zpx, R230. -/
  | nopZpxF4 (z : Byte)
  /-- `F5`: SBC zpx, R143. -/
  | sbcZpx (z : Byte)
  /-- `F6`: INC zpx, R152. -/
  | incZpx (z : Byte)
  /-- `F8`: SED imp, R210. -/
  | sed
  /-- `F9`: SBC aby, R143. -/
  | sbcAby (w : Addr)
  /-- `FA`: NOP imp, R227. -/
  | nopImpFA
  /-- `FC`: NOP abx, R232. -/
  | nopAbxFC (w : Addr)
  /-- `FD`: SBC abx, R143. -/
  | sbcAbx (w : Addr)
  /-- `FE`: INC abx, R152. -/
  | incAbx (w : Addr)
  deriving DecidableEq, Repr

end Sys2Proof
end

