-- ==== Sys2Proof/WellFormed.lean ====
section
/-! DEFINITION. Which instructions are well formed. -/

namespace Sys2Proof

/-- Every term of `Instr` is well formed: a constructor carries exactly the operand bytes its format has (R71), and
"no operand value is reserved" (R81). So there is no check here for an ill-formed term to fail; what R75 and R70
reject are byte strings, and `decode` rejects those by name. -/
def Instr.WellFormed (_ : Instr) : Bool := true

end Sys2Proof
end

