-- ==== Sys2Proof/Decode.lean ====
section
/-! DEFINITION. Decoding (30_encoding.md): the opcode matrix of R77, the decoder, the encoder, and the host's `decodeTableWord`. -/

namespace Sys2Proof

/-- `hi(a)` = `a[15:8]` (00_scope.md section 5). -/
def hiByte (a : Addr) : Byte := a.extractLsb' 8 8

/-- `lo(a)` = `a[7:0]` (00_scope.md section 5). -/
def loByte (a : Addr) : Byte := a.extractLsb' 0 8

/-- `hi :: lo` (00_scope.md section 5): the 16-bit value of a low and a high byte. -/
def joinBytes (lo hi : Byte) : Addr := hi ++ lo

/-- What follows an opcode byte (R71): no operand byte, one, or a low and a high byte. -/
inductive Slot where
  | bare (i : Instr)
  | byte (f : Byte → Instr)
  | word (f : Addr → Instr)

/-- How many operand bytes a slot has: the `operand_size` of R70. -/
def Slot.size : Slot → Nat
  | .bare _ => 0
  | .byte _ => 1
  | .word _ => 2

/-- Row 0x of the opcode matrix (R77). -/
def matrixRow0 : List (Nat × Slot) :=
  [(0x00, .bare .brk), (0x01, .byte .oraIzx), (0x03, .byte .sloIzx), (0x04, .byte .nopZp04), (0x05, .byte .oraZp),
   (0x06, .byte .aslZp), (0x07, .byte .sloZp), (0x08, .bare .php), (0x09, .byte .oraImm), (0x0A, .bare .aslAcc),
   (0x0C, .word .nopAbs0C), (0x0D, .word .oraAbs), (0x0E, .word .aslAbs), (0x0F, .word .sloAbs)]

/-- Row 1x of the opcode matrix (R77). -/
def matrixRow1 : List (Nat × Slot) :=
  [(0x10, .byte .bplRel), (0x11, .byte .oraIzy), (0x13, .byte .sloIzy), (0x14, .byte .nopZpx14),
   (0x15, .byte .oraZpx), (0x16, .byte .aslZpx), (0x17, .byte .sloZpx), (0x18, .bare .clc), (0x19, .word .oraAby),
   (0x1A, .bare .nopImp1A), (0x1B, .word .sloAby), (0x1C, .word .nopAbx1C), (0x1D, .word .oraAbx),
   (0x1E, .word .aslAbx), (0x1F, .word .sloAbx)]

/-- Row 2x of the opcode matrix (R77). -/
def matrixRow2 : List (Nat × Slot) :=
  [(0x20, .word .jsrAbs), (0x21, .byte .andIzx), (0x24, .byte .bitZp), (0x25, .byte .andZp), (0x26, .byte .rolZp),
   (0x28, .bare .plp), (0x29, .byte .andImm), (0x2A, .bare .rolAcc), (0x2C, .word .bitAbs), (0x2D, .word .andAbs),
   (0x2E, .word .rolAbs)]

/-- Row 3x of the opcode matrix (R77). -/
def matrixRow3 : List (Nat × Slot) :=
  [(0x30, .byte .bmiRel), (0x31, .byte .andIzy), (0x34, .byte .nopZpx34), (0x35, .byte .andZpx),
   (0x36, .byte .rolZpx), (0x38, .bare .sec), (0x39, .word .andAby), (0x3A, .bare .nopImp3A),
   (0x3C, .word .nopAbx3C), (0x3D, .word .andAbx), (0x3E, .word .rolAbx)]

/-- Row 4x of the opcode matrix (R77). -/
def matrixRow4 : List (Nat × Slot) :=
  [(0x40, .bare .rti), (0x41, .byte .eorIzx), (0x44, .byte .nopZp44), (0x45, .byte .eorZp), (0x46, .byte .lsrZp),
   (0x48, .bare .pha), (0x49, .byte .eorImm), (0x4A, .bare .lsrAcc), (0x4B, .byte .alrImm), (0x4C, .word .jmpAbs),
   (0x4D, .word .eorAbs), (0x4E, .word .lsrAbs)]

/-- Row 5x of the opcode matrix (R77). -/
def matrixRow5 : List (Nat × Slot) :=
  [(0x50, .byte .bvcRel), (0x51, .byte .eorIzy), (0x54, .byte .nopZpx54), (0x55, .byte .eorZpx),
   (0x56, .byte .lsrZpx), (0x58, .bare .cli), (0x59, .word .eorAby), (0x5A, .bare .nopImp5A),
   (0x5C, .word .nopAbx5C), (0x5D, .word .eorAbx), (0x5E, .word .lsrAbx)]

/-- Row 6x of the opcode matrix (R77). -/
def matrixRow6 : List (Nat × Slot) :=
  [(0x60, .bare .rts), (0x61, .byte .adcIzx), (0x64, .byte .nopZp64), (0x65, .byte .adcZp), (0x66, .byte .rorZp),
   (0x68, .bare .pla), (0x69, .byte .adcImm), (0x6A, .bare .rorAcc), (0x6C, .word .jmpInd), (0x6D, .word .adcAbs),
   (0x6E, .word .rorAbs)]

/-- Row 7x of the opcode matrix (R77). -/
def matrixRow7 : List (Nat × Slot) :=
  [(0x70, .byte .bvsRel), (0x71, .byte .adcIzy), (0x74, .byte .nopZpx74), (0x75, .byte .adcZpx),
   (0x76, .byte .rorZpx), (0x78, .bare .sei), (0x79, .word .adcAby), (0x7A, .bare .nopImp7A),
   (0x7C, .word .nopAbx7C), (0x7D, .word .adcAbx), (0x7E, .word .rorAbx)]

/-- Row 8x of the opcode matrix (R77). -/
def matrixRow8 : List (Nat × Slot) :=
  [(0x80, .byte .nopImm80), (0x81, .byte .staIzx), (0x82, .byte .nopImm82), (0x83, .byte .saxIzx),
   (0x84, .byte .styZp), (0x85, .byte .staZp), (0x86, .byte .stxZp), (0x87, .byte .saxZp), (0x88, .bare .dey),
   (0x89, .byte .nopImm89), (0x8A, .bare .txa), (0x8C, .word .styAbs), (0x8D, .word .staAbs),
   (0x8E, .word .stxAbs), (0x8F, .word .saxAbs)]

/-- Row 9x of the opcode matrix (R77). -/
def matrixRow9 : List (Nat × Slot) :=
  [(0x90, .byte .bccRel), (0x91, .byte .staIzy), (0x94, .byte .styZpx), (0x95, .byte .staZpx),
   (0x96, .byte .stxZpy), (0x97, .byte .saxZpy), (0x98, .bare .tya), (0x99, .word .staAby), (0x9A, .bare .txs),
   (0x9D, .word .staAbx)]

/-- Row Ax of the opcode matrix (R77). -/
def matrixRowA : List (Nat × Slot) :=
  [(0xA0, .byte .ldyImm), (0xA1, .byte .ldaIzx), (0xA2, .byte .ldxImm), (0xA3, .byte .laxIzx),
   (0xA4, .byte .ldyZp), (0xA5, .byte .ldaZp), (0xA6, .byte .ldxZp), (0xA7, .byte .laxZp), (0xA8, .bare .tay),
   (0xA9, .byte .ldaImm), (0xAA, .bare .tax), (0xAC, .word .ldyAbs), (0xAD, .word .ldaAbs), (0xAE, .word .ldxAbs),
   (0xAF, .word .laxAbs)]

/-- Row Bx of the opcode matrix (R77). -/
def matrixRowB : List (Nat × Slot) :=
  [(0xB0, .byte .bcsRel), (0xB1, .byte .ldaIzy), (0xB3, .byte .laxIzy), (0xB4, .byte .ldyZpx),
   (0xB5, .byte .ldaZpx), (0xB6, .byte .ldxZpy), (0xB7, .byte .laxZpy), (0xB8, .bare .clv), (0xB9, .word .ldaAby),
   (0xBA, .bare .tsx), (0xBC, .word .ldyAbx), (0xBD, .word .ldaAbx), (0xBE, .word .ldxAby), (0xBF, .word .laxAby)]

/-- Row Cx of the opcode matrix (R77). -/
def matrixRowC : List (Nat × Slot) :=
  [(0xC0, .byte .cpyImm), (0xC1, .byte .cmpIzx), (0xC2, .byte .nopImmC2), (0xC3, .byte .dcpIzx),
   (0xC4, .byte .cpyZp), (0xC5, .byte .cmpZp), (0xC6, .byte .decZp), (0xC7, .byte .dcpZp), (0xC8, .bare .iny),
   (0xC9, .byte .cmpImm), (0xCA, .bare .dex), (0xCB, .byte .sbxImm), (0xCC, .word .cpyAbs), (0xCD, .word .cmpAbs),
   (0xCE, .word .decAbs), (0xCF, .word .dcpAbs)]

/-- Row Dx of the opcode matrix (R77). -/
def matrixRowD : List (Nat × Slot) :=
  [(0xD0, .byte .bneRel), (0xD1, .byte .cmpIzy), (0xD3, .byte .dcpIzy), (0xD4, .byte .nopZpxD4),
   (0xD5, .byte .cmpZpx), (0xD6, .byte .decZpx), (0xD7, .byte .dcpZpx), (0xD8, .bare .cld), (0xD9, .word .cmpAby),
   (0xDA, .bare .nopImpDA), (0xDB, .word .dcpAby), (0xDC, .word .nopAbxDC), (0xDD, .word .cmpAbx),
   (0xDE, .word .decAbx), (0xDF, .word .dcpAbx)]

/-- Row Ex of the opcode matrix (R77). -/
def matrixRowE : List (Nat × Slot) :=
  [(0xE0, .byte .cpxImm), (0xE1, .byte .sbcIzx), (0xE2, .byte .nopImmE2), (0xE4, .byte .cpxZp),
   (0xE5, .byte .sbcZp), (0xE6, .byte .incZp), (0xE8, .bare .inx), (0xE9, .byte .sbcImm), (0xEA, .bare .nop),
   (0xEC, .word .cpxAbs), (0xED, .word .sbcAbs), (0xEE, .word .incAbs)]

/-- Row Fx of the opcode matrix (R77). -/
def matrixRowF : List (Nat × Slot) :=
  [(0xF0, .byte .beqRel), (0xF1, .byte .sbcIzy), (0xF4, .byte .nopZpxF4), (0xF5, .byte .sbcZpx),
   (0xF6, .byte .incZpx), (0xF8, .bare .sed), (0xF9, .word .sbcAby), (0xFA, .bare .nopImpFA),
   (0xFC, .word .nopAbxFC), (0xFD, .word .sbcAbx), (0xFE, .word .incAbx)]

/-- The dispatch table: the populated slots in order of their opcode byte (R74, R76, R77). -/
def dispatchTable : List (Nat × Slot) :=
  matrixRow0 ++ matrixRow1 ++ matrixRow2 ++ matrixRow3 ++ matrixRow4 ++ matrixRow5 ++ matrixRow6 ++ matrixRow7 ++
  matrixRow8 ++ matrixRow9 ++ matrixRowA ++ matrixRowB ++ matrixRowC ++ matrixRowD ++ matrixRowE ++ matrixRowF

/-- The first entry of a table under a key. -/
def lookupSlot : List (Nat × Slot) → Nat → Option Slot
  | [], _ => none
  | (k, sl) :: rest, n => if k = n then some sl else lookupSlot rest n

/-- The slot of an opcode byte; `none` for the 52 unpopulated bytes (R75, R80). -/
def slotOf (op : Byte) : Option Slot := lookupSlot dispatchTable op.toNat

/-- Why a byte string is not an instruction. -/
inductive Reject where
  /-- There is no byte at all. -/
  | noBytes
  /-- R75: the first byte is not a populated slot. -/
  | unpopulated (op : Byte)
  /-- R70: fewer bytes follow the opcode than its format has. -/
  | truncated (op : Byte)
  deriving DecidableEq, Repr

/-- Decode the instruction at the head of a byte string, lowest address first, and give the bytes after it
(R70, R72: the opcode byte alone fixes the length; R73: 16-bit operands are low byte first). -/
def decode : List Byte → Except Reject (Instr × List Byte)
  | [] => .error .noBytes
  | op :: rest =>
    match slotOf op with
    | none => .error (.unpopulated op)
    | some (.bare i) => .ok (i, rest)
    | some (.byte f) =>
      match rest with
      | b1 :: rest => .ok (f b1, rest)
      | _ => .error (.truncated op)
    | some (.word f) =>
      match rest with
      | b1 :: b2 :: rest => .ok (f (joinBytes b1 b2), rest)
      | _ => .error (.truncated op)

/-- A one-byte instruction's bytes. -/
def bytes1 (op : Byte) : List Byte := [op]

/-- A two-byte instruction's bytes. -/
def bytes2 (op b1 : Byte) : List Byte := [op, b1]

/-- A three-byte instruction's bytes: the operand low byte first (R57, R71). -/
def bytes3 (op : Byte) (w : Addr) : List Byte := [op, loByte w, hiByte w]

/-- The bytes of an instruction, written from R78 and R79. -/
def encode : Instr → List Byte
  | .brk => bytes1 0x00
  | .oraIzx z => bytes2 0x01 z
  | .sloIzx z => bytes2 0x03 z
  | .nopZp04 z => bytes2 0x04 z
  | .oraZp z => bytes2 0x05 z
  | .aslZp z => bytes2 0x06 z
  | .sloZp z => bytes2 0x07 z
  | .php => bytes1 0x08
  | .oraImm v => bytes2 0x09 v
  | .aslAcc => bytes1 0x0A
  | .nopAbs0C w => bytes3 0x0C w
  | .oraAbs w => bytes3 0x0D w
  | .aslAbs w => bytes3 0x0E w
  | .sloAbs w => bytes3 0x0F w
  | .bplRel d => bytes2 0x10 d
  | .oraIzy z => bytes2 0x11 z
  | .sloIzy z => bytes2 0x13 z
  | .nopZpx14 z => bytes2 0x14 z
  | .oraZpx z => bytes2 0x15 z
  | .aslZpx z => bytes2 0x16 z
  | .sloZpx z => bytes2 0x17 z
  | .clc => bytes1 0x18
  | .oraAby w => bytes3 0x19 w
  | .nopImp1A => bytes1 0x1A
  | .sloAby w => bytes3 0x1B w
  | .nopAbx1C w => bytes3 0x1C w
  | .oraAbx w => bytes3 0x1D w
  | .aslAbx w => bytes3 0x1E w
  | .sloAbx w => bytes3 0x1F w
  | .jsrAbs w => bytes3 0x20 w
  | .andIzx z => bytes2 0x21 z
  | .bitZp z => bytes2 0x24 z
  | .andZp z => bytes2 0x25 z
  | .rolZp z => bytes2 0x26 z
  | .plp => bytes1 0x28
  | .andImm v => bytes2 0x29 v
  | .rolAcc => bytes1 0x2A
  | .bitAbs w => bytes3 0x2C w
  | .andAbs w => bytes3 0x2D w
  | .rolAbs w => bytes3 0x2E w
  | .bmiRel d => bytes2 0x30 d
  | .andIzy z => bytes2 0x31 z
  | .nopZpx34 z => bytes2 0x34 z
  | .andZpx z => bytes2 0x35 z
  | .rolZpx z => bytes2 0x36 z
  | .sec => bytes1 0x38
  | .andAby w => bytes3 0x39 w
  | .nopImp3A => bytes1 0x3A
  | .nopAbx3C w => bytes3 0x3C w
  | .andAbx w => bytes3 0x3D w
  | .rolAbx w => bytes3 0x3E w
  | .rti => bytes1 0x40
  | .eorIzx z => bytes2 0x41 z
  | .nopZp44 z => bytes2 0x44 z
  | .eorZp z => bytes2 0x45 z
  | .lsrZp z => bytes2 0x46 z
  | .pha => bytes1 0x48
  | .eorImm v => bytes2 0x49 v
  | .lsrAcc => bytes1 0x4A
  | .alrImm v => bytes2 0x4B v
  | .jmpAbs w => bytes3 0x4C w
  | .eorAbs w => bytes3 0x4D w
  | .lsrAbs w => bytes3 0x4E w
  | .bvcRel d => bytes2 0x50 d
  | .eorIzy z => bytes2 0x51 z
  | .nopZpx54 z => bytes2 0x54 z
  | .eorZpx z => bytes2 0x55 z
  | .lsrZpx z => bytes2 0x56 z
  | .cli => bytes1 0x58
  | .eorAby w => bytes3 0x59 w
  | .nopImp5A => bytes1 0x5A
  | .nopAbx5C w => bytes3 0x5C w
  | .eorAbx w => bytes3 0x5D w
  | .lsrAbx w => bytes3 0x5E w
  | .rts => bytes1 0x60
  | .adcIzx z => bytes2 0x61 z
  | .nopZp64 z => bytes2 0x64 z
  | .adcZp z => bytes2 0x65 z
  | .rorZp z => bytes2 0x66 z
  | .pla => bytes1 0x68
  | .adcImm v => bytes2 0x69 v
  | .rorAcc => bytes1 0x6A
  | .jmpInd w => bytes3 0x6C w
  | .adcAbs w => bytes3 0x6D w
  | .rorAbs w => bytes3 0x6E w
  | .bvsRel d => bytes2 0x70 d
  | .adcIzy z => bytes2 0x71 z
  | .nopZpx74 z => bytes2 0x74 z
  | .adcZpx z => bytes2 0x75 z
  | .rorZpx z => bytes2 0x76 z
  | .sei => bytes1 0x78
  | .adcAby w => bytes3 0x79 w
  | .nopImp7A => bytes1 0x7A
  | .nopAbx7C w => bytes3 0x7C w
  | .adcAbx w => bytes3 0x7D w
  | .rorAbx w => bytes3 0x7E w
  | .nopImm80 v => bytes2 0x80 v
  | .staIzx z => bytes2 0x81 z
  | .nopImm82 v => bytes2 0x82 v
  | .saxIzx z => bytes2 0x83 z
  | .styZp z => bytes2 0x84 z
  | .staZp z => bytes2 0x85 z
  | .stxZp z => bytes2 0x86 z
  | .saxZp z => bytes2 0x87 z
  | .dey => bytes1 0x88
  | .nopImm89 v => bytes2 0x89 v
  | .txa => bytes1 0x8A
  | .styAbs w => bytes3 0x8C w
  | .staAbs w => bytes3 0x8D w
  | .stxAbs w => bytes3 0x8E w
  | .saxAbs w => bytes3 0x8F w
  | .bccRel d => bytes2 0x90 d
  | .staIzy z => bytes2 0x91 z
  | .styZpx z => bytes2 0x94 z
  | .staZpx z => bytes2 0x95 z
  | .stxZpy z => bytes2 0x96 z
  | .saxZpy z => bytes2 0x97 z
  | .tya => bytes1 0x98
  | .staAby w => bytes3 0x99 w
  | .txs => bytes1 0x9A
  | .staAbx w => bytes3 0x9D w
  | .ldyImm v => bytes2 0xA0 v
  | .ldaIzx z => bytes2 0xA1 z
  | .ldxImm v => bytes2 0xA2 v
  | .laxIzx z => bytes2 0xA3 z
  | .ldyZp z => bytes2 0xA4 z
  | .ldaZp z => bytes2 0xA5 z
  | .ldxZp z => bytes2 0xA6 z
  | .laxZp z => bytes2 0xA7 z
  | .tay => bytes1 0xA8
  | .ldaImm v => bytes2 0xA9 v
  | .tax => bytes1 0xAA
  | .ldyAbs w => bytes3 0xAC w
  | .ldaAbs w => bytes3 0xAD w
  | .ldxAbs w => bytes3 0xAE w
  | .laxAbs w => bytes3 0xAF w
  | .bcsRel d => bytes2 0xB0 d
  | .ldaIzy z => bytes2 0xB1 z
  | .laxIzy z => bytes2 0xB3 z
  | .ldyZpx z => bytes2 0xB4 z
  | .ldaZpx z => bytes2 0xB5 z
  | .ldxZpy z => bytes2 0xB6 z
  | .laxZpy z => bytes2 0xB7 z
  | .clv => bytes1 0xB8
  | .ldaAby w => bytes3 0xB9 w
  | .tsx => bytes1 0xBA
  | .ldyAbx w => bytes3 0xBC w
  | .ldaAbx w => bytes3 0xBD w
  | .ldxAby w => bytes3 0xBE w
  | .laxAby w => bytes3 0xBF w
  | .cpyImm v => bytes2 0xC0 v
  | .cmpIzx z => bytes2 0xC1 z
  | .nopImmC2 v => bytes2 0xC2 v
  | .dcpIzx z => bytes2 0xC3 z
  | .cpyZp z => bytes2 0xC4 z
  | .cmpZp z => bytes2 0xC5 z
  | .decZp z => bytes2 0xC6 z
  | .dcpZp z => bytes2 0xC7 z
  | .iny => bytes1 0xC8
  | .cmpImm v => bytes2 0xC9 v
  | .dex => bytes1 0xCA
  | .sbxImm v => bytes2 0xCB v
  | .cpyAbs w => bytes3 0xCC w
  | .cmpAbs w => bytes3 0xCD w
  | .decAbs w => bytes3 0xCE w
  | .dcpAbs w => bytes3 0xCF w
  | .bneRel d => bytes2 0xD0 d
  | .cmpIzy z => bytes2 0xD1 z
  | .dcpIzy z => bytes2 0xD3 z
  | .nopZpxD4 z => bytes2 0xD4 z
  | .cmpZpx z => bytes2 0xD5 z
  | .decZpx z => bytes2 0xD6 z
  | .dcpZpx z => bytes2 0xD7 z
  | .cld => bytes1 0xD8
  | .cmpAby w => bytes3 0xD9 w
  | .nopImpDA => bytes1 0xDA
  | .dcpAby w => bytes3 0xDB w
  | .nopAbxDC w => bytes3 0xDC w
  | .cmpAbx w => bytes3 0xDD w
  | .decAbx w => bytes3 0xDE w
  | .dcpAbx w => bytes3 0xDF w
  | .cpxImm v => bytes2 0xE0 v
  | .sbcIzx z => bytes2 0xE1 z
  | .nopImmE2 v => bytes2 0xE2 v
  | .cpxZp z => bytes2 0xE4 z
  | .sbcZp z => bytes2 0xE5 z
  | .incZp z => bytes2 0xE6 z
  | .inx => bytes1 0xE8
  | .sbcImm v => bytes2 0xE9 v
  | .nop => bytes1 0xEA
  | .cpxAbs w => bytes3 0xEC w
  | .sbcAbs w => bytes3 0xED w
  | .incAbs w => bytes3 0xEE w
  | .beqRel d => bytes2 0xF0 d
  | .sbcIzy z => bytes2 0xF1 z
  | .nopZpxF4 z => bytes2 0xF4 z
  | .sbcZpx z => bytes2 0xF5 z
  | .incZpx z => bytes2 0xF6 z
  | .sed => bytes1 0xF8
  | .sbcAby w => bytes3 0xF9 w
  | .nopImpFA => bytes1 0xFA
  | .nopAbxFC w => bytes3 0xFC w
  | .sbcAbx w => bytes3 0xFD w
  | .incAbx w => bytes3 0xFE w

/-- The three bytes at the head of a number whose bit 0 is the least significant bit of the first byte. -/
def bytesOfTableWord (nbits w : Nat) : List Byte :=
  let m := w % 2 ^ nbits
  [BitVec.ofNat 8 m, BitVec.ofNat 8 (m / 256), BitVec.ofNat 8 (m / 65536)]

/-- The instruction the decoder reads from an instruction whose bits are `w`, numbered as spec/opcode_table.json
numbers them; bits above `nbits` are 0. -/
def decodeTableWord (nbits w : Nat) : Option Instr :=
  match decode (bytesOfTableWord nbits w) with
  | .ok (i, _) => some i
  | .error _ => none

end Sys2Proof
end

