-- ==== Sys2Proof/Config.lean ====
section
/-! DEFINITION. What a launch fixes (the parameters of 00_scope.md section 4) and the free values the spec leaves open. -/

namespace Sys2Proof

/-- The cartridge collaborator of a launch (R50, R52): the parameter `Cart`. -/
inductive Cart where
  /-- The default cartridge of R51: one bank of ROM, held in memory. -/
  | singleBank
  /-- Any other collaborator, under a number of its own: the bank-switching schemes R52 names and does not specify. -/
  | other (scheme : Nat)
  deriving DecidableEq, Repr

/-- `CartState` (R25): whatever state the cartridge collaborator keeps, as a list of numbers whose meaning is the
collaborator's; empty for the single-bank cartridge. -/
abbrev CartState := List Nat

/-- The RIOT I/O and timer collaborator of a launch (R53): the parameter `RiotIO`. -/
inductive RiotIO where
  /-- The default, an oracle: "every read returns a `draw`" (R336), and no access is refused. -/
  | oracle
  /-- Any other collaborator, under a number of its own: one that may refuse an address it does not decode (R48). -/
  | other (unit : Nat)
  deriving DecidableEq, Repr

/-- The two bus accesses. -/
inductive Access where
  | read
  | write
  deriving DecidableEq, Repr

/-- The launch parameters that 00_scope.md section 4 lists with a default and that the core reads while it runs.
No step changes them; the state after reset holds the defaults (`Machine.launchParams`). -/
structure Params where
  /-- `CYCLE_TO_CLOCK`: the Clock ticks of one CPU cycle (R5). -/
  cycleToClock : Nat
  /-- `Cart`: the cartridge collaborator (R50). -/
  cart : Cart
  /-- `RiotIO`: the RIOT I/O and timer collaborator (R53, D35). -/
  riotIO : RiotIO
  /-- `POPULATED`: the opcode bytes the dispatch table holds, in rising order (R76). -/
  populated : List Byte
  /-- `JMP_IND_PAGE_WRAP`: JMP (ind) fetches the high byte without a carry into the page (R101). -/
  jmpIndPageWrap : Bool
  /-- `FRAME_HEIGHT`: the number of Display rows (R283). -/
  frameHeight : Nat
  /-- `RES_OFFSET_P`: pixels added by RESP0/RESP1 in the visible part of the line (R296). -/
  resOffsetP : Nat
  /-- `RES_OFFSET_MB`: pixels added by RESM0/RESM1/RESBL in the visible part of the line (R297). -/
  resOffsetMB : Nat
  /-- `BLANK_COLOUR`: the value painted while VBLANK bit 1 is set (R287). -/
  blankColour : Byte
  /-- `STOP_CLOCK`: the optional Clock threshold at which the run ends (R358). -/
  stopClock : Option Nat
  deriving DecidableEq, Repr

/-- FREE VALUE (log 6): the byte of the k-th draw, read from a RIOT I/O or timer register (R53) or from a TIA port
that R262 leaves to the `TiaInput` oracle. Nothing constrains it. -/
opaque Config.freeByte : Nat → Byte

/-- FREE VALUE (log 20): the `CartState` that the collaborator `scheme` makes of the bytes of an image file (R50, R353). -/
opaque Config.cartInit (scheme : Nat) (image : List Byte) : CartState

/-- FREE VALUE (log 20): `Cart.read : CartState × u12 -> u8 × CartState` of the collaborator `scheme` (R50); `none`
where it refuses the offset (R48, R322). Nothing constrains it. -/
opaque Config.cartRead (scheme : Nat) (c : CartState) (offset : BitVec 12) : Option (Byte × CartState)

/-- FREE VALUE (log 20): `Cart.write : CartState × u12 × u8 -> CartState` of the collaborator `scheme` (R50); `none`
where it refuses the offset (R48, R322). Nothing constrains it. -/
opaque Config.cartWrite (scheme : Nat) (c : CartState) (offset : BitVec 12) (v : Byte) : Option CartState

/-- FREE VALUE (log 21): whether the RIOT I/O collaborator `unit` decodes the address it is handed, or refuses it (R48).
Nothing constrains it. -/
opaque Config.riotDecodes (unit : Nat) (kind : Access) (addr : Addr) : Bool

/-- FREE VALUE (log 6): the flag of the k-th draw, for `N` and `V` after a decimal ADC or SBC (R142, R144).
Nothing constrains it. -/
opaque Config.freeFlag : Nat → Bool

end Sys2Proof
end

