-- ==== Sys2Proof/Machine/State.lean ====
section
/-! DEFINITION. Every piece of state of the core (files 10 and 70 of spec/), the reasons a step can stop, and the state after reset. -/

namespace Sys2Proof.Machine

/-- The index n in (0, 1) of a player or missile. -/
inductive Side where
  | zero
  | one
  deriving DecidableEq, Repr

/-- A two-element array of state, such as `grp[2]` or `cxmp[2]`. -/
structure Pair (α : Type) where
  zero : α
  one : α
  deriving DecidableEq, Repr

/-- The fatal conditions (60_exceptions.md section 1). Each ends the run, R320. -/
inductive Fault where
  /-- R321: the byte `op` fetched at `pc` is not a populated slot. Raised by fetching an instruction, before any
  other effect. Safe: it is the spec's own fatal condition. -/
  | unimplementedOpcode (op : Byte) (pc : Addr)
  /-- R322, R48: a bus access at `addr` matches no region, which with the masks of R41 cannot arise, or the cartridge or
  RIOT I/O collaborator refuses it, which the default collaborators never do. Raised by a bus read or write. Safe: it is
  the spec's own fatal condition. -/
  | invalidAddress (addr : Addr)
  /-- R323: an empty cartridge image. Raised at load, before reset, never during execution; `step` only repeats it
  for a core that was loaded so. Safe: it is the spec's own fatal condition. -/
  | badCartridge
  deriving DecidableEq, Repr

/-- Where the spec gives the run no meaning from this point on (R324), or no further step (R358). -/
inductive Refusal where
  /-- Raised by an arm of `exec` for an instruction that has no meaning yet; no arm does. Safe. -/
  | notModelled (mnemonic : String)
  /-- R245, R302: a write to RSYNC, which "a model must *refuse*". Raised by a bus write. Safe. -/
  | rsyncWrite
  /-- R260: a write with bit 1 set to RESMP0 or RESMP1, which "a model must *refuse*". Raised by a bus write. Safe. -/
  | resmpLock (n : Side)
  /-- R358: the run has ended, at STOP_CLOCK or by the quit signal. Raised by `step` at an instruction boundary.
  Safe: the spec has no step there. -/
  | runEnded
  /-- R51, R52: an image of more than 4096 bytes does not fit the single-bank cartridge; it takes another `Cart`.
  Raised by `load` only, for a launch with the single-bank cartridge. Safe. -/
  | bankedCartridge (size : Nat)
  deriving DecidableEq, Repr

/-- What a bus access, an instruction or a step answers. -/
abbrev Result (α : Type) := Host.Outcome α Fault Refusal

/-- Memory: the storage bytes by canonical 13-bit bus address, rising, none equal to what an unlisted address
reads as. Keys 0x0080..0x00FF are `RAM[0..127]`, keys 0x1000..0x1FFF the cartridge's `ROM[0..4095]`. -/
abbrev Memory := List Host.Cell

/-- `Display` (R29, R283): painted cells only, the cell of row `l`, column `x` at key `l * 160 + x`, rising.
An unlisted cell has not been painted and has no value (R352, U12). -/
abbrev Display := List Host.Cell

/-- The six flags that are state (R18). -/
structure Flags where
  n : Bool
  v : Bool
  d : Bool
  i : Bool
  z : Bool
  c : Bool
  deriving DecidableEq, Repr

/-- `LineState` (R27, R285): colour and motion registers as of the start of the scanline being drawn. -/
structure LineState where
  pColor : Pair Byte
  playfieldColor : Byte
  backgroundColor : Byte
  ctrlpf : Byte
  hmp : Pair Byte
  hmm : Pair Byte
  hmbl : Byte
  deriving DecidableEq, Repr

/-- `CollisionState` (R28): eight sticky latch bytes. -/
structure Latches where
  cxmp : Pair Byte
  cxpfb : Pair Byte
  cxmfb : Pair Byte
  cxblpf : Byte
  cxppmm : Byte
  deriving DecidableEq, Repr

/-- The TIA (R26 to R30): live register bytes, delayed copies, positions, LineState, latches, Display and the
scan bookkeeping. The memoized scanlines are computed from the registers on demand, as R26 permits. -/
structure Tia where
  vsync : Byte
  vblank : Byte
  nusiz : Pair Byte
  colup : Pair Byte
  colupf : Byte
  colubk : Byte
  ctrlpf : Byte
  refp : Pair Byte
  pf0 : Byte
  pf1 : Byte
  pf2 : Byte
  grp : Pair Byte
  grpOld : Pair Byte
  enam : Pair Byte
  enabl : Byte
  enablOld : Byte
  hmp : Pair Byte
  hmm : Pair Byte
  hmbl : Byte
  vdelp : Pair Byte
  vdelbl : Byte
  resmp : Pair Byte
  resp : Pair Nat
  resm : Pair Nat
  resbl : Nat
  line : LineState
  latch : Latches
  display : Display
  lastUpdate : Nat
  screenStart : Nat
  isVsync : Bool
  deriving DecidableEq, Repr

/-- The six write-only ports of the Audio collaborator (R54, R258). -/
inductive AudioPort where
  | ctrl0
  | ctrl1
  | freq0
  | freq1
  | vol0
  | vol1
  deriving DecidableEq, Repr

/-- An output event to a collaborator. None changes core state and no instruction reads one (log 7). -/
inductive Event where
  /-- `AudioWrite(port, value, Clock)`, R54, R258. -/
  | audioWrite (port : AudioPort) (v : Byte) (clock : Nat)
  /-- The audio `step()` hook, R305. -/
  | audioStep
  /-- `InputControl(v)`, R243. -/
  | inputControl (v : Byte)
  /-- `DisplayFlush(Display)`, R300. -/
  | displayFlush (frame : Display)
  /-- A byte delivered to the RIOT I/O collaborator, R53. -/
  | riotWrite (addr : Addr) (v : Byte) (clock : Nat)
  deriving DecidableEq, Repr

/-- The state of the core. `INVENTORY.md`, heading State, names the rule of every field. -/
structure State where
  a : Byte
  x : Byte
  y : Byte
  sp : Byte
  pc : Addr
  flags : Flags
  clock : Nat
  mem : Memory
  cart : CartState
  tia : Tia
  fault : Option Fault
  params : Params
  quit : Bool
  draws : Nat
  events : List Event
  deriving DecidableEq, Repr

/-- An array of two zeros. -/
def Pair.zeros : Pair Byte := ⟨0, 0⟩

/-- TIA state at power-on: the all-zero launch parameter R352 recommends; `lastUpdate` and `screenStart` are 0 and
`isVsync` is false by R352 itself; nothing is painted. -/
def Tia.powerOn : Tia where
  vsync := 0
  vblank := 0
  nusiz := Pair.zeros
  colup := Pair.zeros
  colupf := 0
  colubk := 0
  ctrlpf := 0
  refp := Pair.zeros
  pf0 := 0
  pf1 := 0
  pf2 := 0
  grp := Pair.zeros
  grpOld := Pair.zeros
  enam := Pair.zeros
  enabl := 0
  enablOld := 0
  hmp := Pair.zeros
  hmm := Pair.zeros
  hmbl := 0
  vdelp := Pair.zeros
  vdelbl := 0
  resmp := Pair.zeros
  resp := ⟨0, 0⟩
  resm := ⟨0, 0⟩
  resbl := 0
  line := ⟨Pair.zeros, 0, 0, 0, Pair.zeros, Pair.zeros, 0⟩
  latch := ⟨Pair.zeros, Pair.zeros, Pair.zeros, 0, 0⟩
  display := []
  lastUpdate := 0
  screenStart := 0
  isVsync := false

/-- The core at power-on, before `reset()` (R350 to R353), with nothing listed in memory. The registers and flags
R351 leaves unspecified hold the values log 1 names. `pc` is "not meaningful before reset" (R356). -/
def State.powerOn : State where
  a := 0x00
  x := 0x00
  y := 0x00
  sp := 0xFF
  pc := 0x0000
  flags := ⟨false, false, false, false, false, false⟩
  clock := 0
  mem := []
  cart := []
  tia := Tia.powerOn
  fault := none
  params := launchParams
  quit := false
  draws := 0
  events := []

/-- The core right after reset. R354: `PC <- MemRead(0xFFFC, 2)` and nothing else changes; with nothing listed in
memory both vector bytes read 0x00 (log 3), so `PC` is 0x0000. `Laws/Bus.lean` proves that this is what `applyReset` answers. -/
def State.reset : State := { State.powerOn with pc := 0x0000 }

end Sys2Proof.Machine
end

