-- ==== Sys2Proof/Machine/Update.lean ====
section
/-! DEFINITION. The elementary operations on the state: sequencing, register and field updates, the Clock, draws, events, and the storage bytes. -/

namespace Sys2Proof.Machine

/-- Continue with `f` after an operation that answered; a fault or a refusal ends the instruction there (R105, R327). -/
def andThen {α β : Type} (o : Result α) (f : α → Result β) : Result β :=
  match o with
  | .next a => f a
  | .fault r => .fault r
  | .refused r => .refused r

/-- Element `n` of a two-element array. -/
def Pair.get {α : Type} (p : Pair α) : Side → α
  | .zero => p.zero
  | .one => p.one

/-- A two-element array with element `n` replaced. -/
def Pair.set {α : Type} (p : Pair α) (n : Side) (v : α) : Pair α :=
  match n with
  | .zero => { p with zero := v }
  | .one => { p with one := v }

/-- The other element's index. -/
def Side.other : Side → Side
  | .zero => .one
  | .one => .zero

/-- `A <- v`. -/
def State.setA (s : State) (v : Byte) : State := { s with a := v }

/-- `X <- v`. -/
def State.setX (s : State) (v : Byte) : State := { s with x := v }

/-- `Y <- v`. -/
def State.setY (s : State) (v : Byte) : State := { s with y := v }

/-- `S <- v`. -/
def State.setSp (s : State) (v : Byte) : State := { s with sp := v }

/-- `PC <- v`. -/
def State.setPc (s : State) (v : Addr) : State := { s with pc := v }

/-- Replace the six flags. -/
def State.setFlags (s : State) (f : Flags) : State := { s with flags := f }

/-- Replace the storage bytes. -/
def State.setMem (s : State) (m : Memory) : State := { s with mem := m }

/-- Replace the TIA's state. -/
def State.setTia (s : State) (t : Tia) : State := { s with tia := t }

/-- Set the Clock. -/
def State.setClock (s : State) (c : Nat) : State := { s with clock := c }

/-- Emit an output event (R54, R56). -/
def State.emit (s : State) (e : Event) : State := { s with events := e :: s.events }

/-- Replace `CartState`. -/
def State.setCart (s : State) (c : CartState) : State := { s with cart := c }

/-- Count `n` draws. -/
def State.drew (s : State) (n : Nat) : State := { s with draws := s.draws + n }

/-- The Clock `n` CPU cycles on: `Clock + n * CYCLE_TO_CLOCK` (R5). -/
def State.clockAfter (s : State) (n : Nat) : Nat := s.clock + n * s.params.cycleToClock

/-- `Charge(n)`: `Clock <- Clock + n * CYCLE_TO_CLOCK` (00_scope.md section 5). -/
def State.charge (s : State) (n : Nat) : State := s.setClock (s.clockAfter n)

/-- What an address that `mem` does not list reads as (log 2, log 3): a DESIGN CHOICE for RAM, and for the
cartridge the zero padding of R51. -/
def Memory.unlisted : Byte := 0

/-- Read the storage byte under a key. -/
def Memory.read : Memory → Nat → Byte
  | [], _ => Memory.unlisted
  | (k, b) :: m, a => if k = a then b else Memory.read m a

/-- Write the storage byte under a key, keeping the canonical form: keys rising, no entry equal to `Memory.unlisted`. -/
def Memory.write : Memory → Nat → Byte → Memory
  | [], a, v => if v = Memory.unlisted then [] else [(a, v)]
  | (k, b) :: m, a, v =>
    if a < k then (if v = Memory.unlisted then (k, b) :: m else (a, v) :: (k, b) :: m)
    else if a = k then (if v = Memory.unlisted then m else (a, v) :: m)
    else (k, b) :: Memory.write m a v

/-- The keys that hold storage: `RAM[0..127]` at 0x0080 up, `ROM[0..4095]` at 0x1000 up. -/
def Memory.isKey (k : Nat) : Bool := (0x80 ≤ k && k < 0x100) || (0x1000 ≤ k && k < 0x2000)

/-- The canonical form, from the lower bound `lo` on: keys rising and storage keys, no entry equal to `Memory.unlisted`. -/
def Memory.wfFrom : Nat → Memory → Bool
  | _, [] => true
  | lo, (k, b) :: m => lo ≤ k && Memory.isKey k && b != Memory.unlisted && Memory.wfFrom (k + 1) m

/-- The canonical form of memory. -/
def Memory.wf (m : Memory) : Bool := Memory.wfFrom 0 m

/-- The key of `RAM[i]`. -/
def ramKey (i : Nat) : Nat := 0x80 + i

/-- The key of `ROM[o]`. -/
def romKey (o : Nat) : Nat := 0x1000 + o

/-- The colour of a Display cell; `none` where nothing has been painted (R352, U12). -/
def Display.read : Display → Nat → Option Byte
  | [], _ => none
  | (k, b) :: d, a => if k = a then some b else Display.read d a

/-- Paint a Display cell, keeping the keys rising. -/
def Display.write : Display → Nat → Byte → Display
  | [], a, v => [(a, v)]
  | (k, b) :: d, a, v =>
    if a < k then (a, v) :: (k, b) :: d
    else if a = k then (a, v) :: d
    else (k, b) :: Display.write d a v

/-- The canonical form of the Display from the lower bound `lo` on, with `cells` cells in all: keys rising, none out of range. -/
def Display.wfFrom (cells : Nat) : Nat → Display → Bool
  | _, [] => true
  | lo, (k, _) :: d => lo ≤ k && k < cells && Display.wfFrom cells (k + 1) d

/-- The canonical form of a Display of `rows` rows of 160 cells (R283). -/
def Display.wf (rows : Nat) (d : Display) : Bool := Display.wfFrom (rows * 160) 0 d

end Sys2Proof.Machine
end

