-- ==== Sys2Proof/Machine/Tia.lean ====
section
/-! DEFINITION. The TIA video-timing engine (48_tia_video_timing.md): beam geometry, object scanlines, compositor, collisions, scan catch-up, positions. -/

namespace Sys2Proof.Machine

/-- `FRAME_WIDTH`: visible pixels per scanline (R280). -/
def frameWidth : Nat := 160

/-- `HBLANK`: ticks of horizontal blank at the start of a scanline (R280). -/
def hblank : Nat := 68

/-- `HORIZONTAL_TICKS`: Clock ticks per scanline, 160 + 68 (R280). -/
def horizontalTicks : Nat := 228

/-- `line(t)` (R280). -/
def Tia.lineOf (t : Tia) (clock : Nat) : Nat := (clock - t.screenStart) / horizontalTicks

/-- `h(t)`: the tick within the scanline (R280). -/
def Tia.hpos (t : Tia) (clock : Nat) : Nat := (clock - t.screenStart) % horizontalTicks

/-- `cyc(t)`: the CPU cycle within the scanline (R280). -/
def Tia.cycleOf (t : Tia) (clock : Nat) : Nat := t.hpos clock / 3

/-- Bit `i` of a register byte, `v[i]`. -/
def bitOf (v : Byte) (i : Nat) : Bool := v.getLsbD i

/-- R288: which of the 20 playfield bits covers the 4-pixel group `i` in 0..39. -/
def playfieldIndex (ctrlpf : Byte) (i : Nat) : Nat :=
  if i < 20 then i else if bitOf ctrlpf 0 then 39 - i else i - 20

/-- R288: playfield bit `b` in 0..19, PF0 bits 4 to 7, PF1 bits 7 to 0, PF2 bits 0 to 7. -/
def playfieldBit (t : Tia) (b : Nat) : Bool :=
  if b < 4 then bitOf t.pf0 (4 + b)
  else if b < 12 then bitOf t.pf1 (7 - (b - 4))
  else bitOf t.pf2 (b - 12)

/-- `PF(x)`, R288. -/
def Tia.playfield (t : Tia) (x : Nat) : Bool := playfieldBit t (playfieldIndex t.ctrlpf (x / 4))

/-- R289: the offsets of the copies that `nusiz[2:0]` selects. -/
def copyOffsets (nusiz : Byte) : List Nat :=
  match (nusiz &&& 7).toNat with
  | 1 => [0, 16]
  | 2 => [0, 32]
  | 3 => [0, 16, 32]
  | 4 => [0, 64]
  | 6 => [0, 32, 64]
  | _ => [0]

/-- R289: the pixel size that `nusiz[2:0]` selects. -/
def pixelSize (nusiz : Byte) : Nat :=
  match (nusiz &&& 7).toNat with
  | 5 => 2
  | 7 => 4
  | _ => 1

/-- R292: the graphics byte player `n` shows. -/
def Tia.graphics (t : Tia) (n : Side) : Byte :=
  if bitOf (t.vdelp.get n) 0 then t.grpOld.get n else t.grp.get n

/-- R289: graphic pixel `j` in 0..7, leftmost first; bit 7 is leftmost unless REFP bit 3 reflects. -/
def Tia.graphicPixel (t : Tia) (n : Side) (j : Nat) : Bool :=
  bitOf (t.graphics n) (if bitOf (t.refp.get n) 3 then j else 7 - j)

/-- `P(n)(x)`, R289: some copy, graphic pixel and sub-pixel lies at `x` modulo 160. -/
def Tia.player (t : Tia) (n : Side) (x : Nat) : Bool :=
  (copyOffsets (t.nusiz.get n)).any fun o =>
    (List.range 8).any fun j =>
      (List.range (pixelSize (t.nusiz.get n))).any fun k =>
        x == (t.resp.get n + o + j * pixelSize (t.nusiz.get n) + k) % frameWidth && t.graphicPixel n j

/-- The width 1, 2, 4 or 8 that bits 5:4 of NUSIZn or CTRLPF select (R290, R291). -/
def objectWidth (v : Byte) : Nat := 2 ^ (v.extractLsb' 4 2).toNat

/-- R290: missile `n` is enabled. -/
def Tia.missileEnabled (t : Tia) (n : Side) : Bool := bitOf (t.enam.get n) 1 && !bitOf (t.resmp.get n) 1

/-- `M(n)(x)`, R290. -/
def Tia.missile (t : Tia) (n : Side) (x : Nat) : Bool :=
  t.missileEnabled n &&
    (copyOffsets (t.nusiz.get n)).any fun o =>
      (List.range (objectWidth (t.nusiz.get n))).any fun k => x == (t.resm.get n + o + k) % frameWidth

/-- R291, R292: the ball is enabled. -/
def Tia.ballEnabled (t : Tia) : Bool := bitOf (if bitOf t.vdelbl 0 then t.enablOld else t.enabl) 1

/-- `BL(x)`, R291. -/
def Tia.ball (t : Tia) (x : Nat) : Bool :=
  t.ballEnabled && (List.range (objectWidth t.ctrlpf)).any fun k => x == (t.resbl + k) % horizontalTicks

/-- Which objects cover one pixel (R284). -/
structure Hit where
  pf : Bool
  bl : Bool
  m0 : Bool
  m1 : Bool
  p0 : Bool
  p1 : Bool
  deriving DecidableEq, Repr

/-- R284: the objects that cover pixel `x`, from the live registers. -/
def Tia.hits (t : Tia) (x : Nat) : Hit where
  pf := t.playfield x
  bl := t.ball x
  m0 := t.missile .zero x
  m1 := t.missile .one x
  p0 := t.player .zero x
  p1 := t.player .one x

/-- `if hit: latch |= mask` (R293). -/
def latchIf (hit : Bool) (mask v : Byte) : Byte := if hit then v ||| mask else v

/-- The bits of the latches that R263 gives to a pair of objects: bits 7 and 6 of each byte, of `cxblpf` bit 7 only, "none,
always 0" being its bit 6. -/
def Latches.assigned (c : Latches) : Latches where
  cxmp := ⟨c.cxmp.zero &&& 0xC0, c.cxmp.one &&& 0xC0⟩
  cxpfb := ⟨c.cxpfb.zero &&& 0xC0, c.cxpfb.one &&& 0xC0⟩
  cxmfb := ⟨c.cxmfb.zero &&& 0xC0, c.cxmfb.one &&& 0xC0⟩
  cxblpf := c.cxblpf &&& 0x80
  cxppmm := c.cxppmm &&& 0xC0

/-- `UpdateCollisions(hit)`, R293. -/
def updateCollisions (h : Hit) (c : Latches) : Latches where
  cxmp := ⟨latchIf (h.m0 && h.p0) 0x40 (latchIf (h.m0 && h.p1) 0x80 c.cxmp.zero),
           latchIf (h.m1 && h.p1) 0x40 (latchIf (h.m1 && h.p0) 0x80 c.cxmp.one)⟩
  cxpfb := ⟨latchIf (h.p0 && h.bl) 0x40 (latchIf (h.p0 && h.pf) 0x80 c.cxpfb.zero),
            latchIf (h.p1 && h.bl) 0x40 (latchIf (h.p1 && h.pf) 0x80 c.cxpfb.one)⟩
  cxmfb := ⟨latchIf (h.m0 && h.bl) 0x40 (latchIf (h.m0 && h.pf) 0x80 c.cxmfb.zero),
            latchIf (h.m1 && h.bl) 0x40 (latchIf (h.m1 && h.pf) 0x80 c.cxmfb.one)⟩
  cxblpf := latchIf (h.bl && h.pf) 0x80 c.cxblpf
  cxppmm := latchIf (h.m0 && h.m1) 0x40 (latchIf (h.p0 && h.p1) 0x80 c.cxppmm)

/-- `Composite(hit, LS)`, R286: the priority bit is `LS.ctrlpf[2]`; player 1 lies above player 0 (C6). -/
def composite (h : Hit) (ls : LineState) : Byte :=
  if bitOf ls.ctrlpf 2 then
    if h.pf || h.bl then ls.playfieldColor
    else if h.p1 || h.m1 then ls.pColor.one
    else if h.p0 || h.m0 then ls.pColor.zero
    else ls.backgroundColor
  else
    if h.p1 || h.m1 then ls.pColor.one
    else if h.p0 || h.m0 then ls.pColor.zero
    else if h.pf || h.bl then ls.playfieldColor
    else ls.backgroundColor

/-- `Snapshot()`, R285: the live colour and motion registers. -/
def Tia.snapshot (t : Tia) : LineState where
  pColor := t.colup
  playfieldColor := t.colupf
  backgroundColor := t.colubk
  ctrlpf := t.ctrlpf
  hmp := t.hmp
  hmm := t.hmm
  hmbl := t.hmbl

/-- R284: the first tick of a scanline captures LineState. -/
def Tia.beginLine (t : Tia) (clock : Nat) : Tia :=
  if t.hpos clock = 0 then { t with line := t.snapshot } else t

/-- R287: VBLANK bit 1, read live. -/
def Tia.blanked (t : Tia) : Bool := bitOf t.vblank 1

/-- R284, R287, R293: the latches after the visible pixel `x`. -/
def Tia.latchAt (t : Tia) (x : Nat) : Latches :=
  if t.blanked then t.latch else updateCollisions (t.hits x) t.latch

/-- R284, R286, R287: the colour of the visible pixel `x`. -/
def Tia.colourAt (p : Params) (t : Tia) (x : Nat) : Byte :=
  if t.blanked then p.blankColour else composite (t.hits x) t.line

/-- R283, R284: store a pixel's colour unless its line is beyond the Display. -/
def Display.paint (p : Params) (d : Display) (l x : Nat) (c : Byte) : Display :=
  if l < p.frameHeight then Display.write d (l * frameWidth + x) c else d

/-- R284: the visible part of the work of one tick. -/
def Tia.visibleTick (p : Params) (clock : Nat) (t : Tia) : Tia :=
  if hblank ≤ t.hpos clock then
    { t with
      latch := t.latchAt (t.hpos clock - hblank)
      display := Display.paint p t.display (t.lineOf clock) (t.hpos clock - hblank)
        (t.colourAt p (t.hpos clock - hblank)) }
  else t

/-- R284: the body of the catch-up loop for the tick at Clock `clock`. -/
def Tia.tick (p : Params) (clock : Nat) (t : Tia) : Tia := (t.beginLine clock).visibleTick p clock

/-- R284: the catch-up loop over `n` ticks from Clock `clock` on. -/
def Tia.ticks (p : Params) : Nat → Nat → Tia → Tia
  | 0, _, t => t
  | n + 1, clock, t => Tia.ticks p n (clock + 1) (t.tick p clock)

/-- `CatchUp()` at an access whose Clock is `clock`, R284. -/
def Tia.catchUp (p : Params) (clock : Nat) (t : Tia) : Tia :=
  { t.ticks p (clock - t.lastUpdate) t.lastUpdate with lastUpdate := clock }

/-- R296, R297: the position a reset strobe sets at beam tick `h`: 3 in the blank, else `(h - 68 + offset) mod width`. -/
def strobePosition (h offset width : Nat) : Nat := if h < hblank then 3 else (h - hblank + offset) % width

/-- `sext4(v[7:4])`: the high nibble as a signed 4-bit value (R298). -/
def motionNibble (v : Byte) : Int := (v.extractLsb' 4 4).toInt

/-- R298: the extra shift of an HMOVE at CPU cycle 73 of the scanline. -/
def Tia.hmoveExtra (t : Tia) (clock : Nat) : Int := if t.cycleOf clock = 73 then 8 else 0

/-- R298: a position moved left by `delta`, modulo `width`. -/
def movePosition (pos : Nat) (delta : Int) (width : Nat) : Nat := (((pos : Int) - delta) % (width : Int)).toNat

/-- HMOVE at Clock `clock`, R298: the motion bytes are LineState's. -/
def Tia.hmove (t : Tia) (clock : Nat) : Tia :=
  { t with
    resp := ⟨movePosition t.resp.zero (motionNibble t.line.hmp.zero + t.hmoveExtra clock) frameWidth,
             movePosition t.resp.one (motionNibble t.line.hmp.one + t.hmoveExtra clock) frameWidth⟩
    resm := ⟨movePosition t.resm.zero (motionNibble t.line.hmm.zero + t.hmoveExtra clock) frameWidth,
             movePosition t.resm.one (motionNibble t.line.hmm.one + t.hmoveExtra clock) frameWidth⟩
    resbl := movePosition t.resbl (motionNibble t.line.hmbl + t.hmoveExtra clock) horizontalTicks }

/-- HMCLR, R261, R299: the live motion registers only. -/
def Tia.hmclr (t : Tia) : Tia := { t with hmp := Pair.zeros, hmm := Pair.zeros, hmbl := 0 }

/-- CXCLR, R261: all eight latch bytes. -/
def Tia.cxclr (t : Tia) : Tia := { t with latch := ⟨Pair.zeros, Pair.zeros, Pair.zeros, 0, 0⟩ }

/-- R300: the scanline boundary at or before Clock `clock`. -/
def Tia.frameOrigin (t : Tia) (clock : Nat) : Nat := clock - t.hpos clock

/-- R301: the Clock after a WSYNC at Clock `clock`: the next scanline boundary unless it is on one. -/
def Tia.wsyncClock (t : Tia) (clock : Nat) : Nat :=
  if t.hpos clock = 0 then clock else clock + (horizontalTicks - t.hpos clock)

/-- GRP0 or GRP1, R254: the new graphics, and the delayed copies the write latches. -/
def Tia.writeGrp (t : Tia) (n : Side) (v : Byte) : Tia :=
  match n with
  | .zero => { t with grp := t.grp.set .zero v, grpOld := t.grpOld.set .one t.grp.one }
  | .one => { t with grp := t.grp.set .one v, grpOld := t.grpOld.set .zero t.grp.zero, enablOld := t.enabl }

end Sys2Proof.Machine
end

