-- ==== Sys2Proof/Machine/TiaRegs.lean ====
section
/-! DEFINITION. The TIA register map and the effect of each register access (47_tia_registers.md). -/

namespace Sys2Proof.Machine

/-- The write registers of R241, under the number of their object. -/
inductive TiaReg where
  | vsync
  | vblank
  | wsync
  | rsync
  | nusiz (n : Side)
  | colup (n : Side)
  | colupf
  | colubk
  | ctrlpf
  | refp (n : Side)
  | pf0
  | pf1
  | pf2
  | resp (n : Side)
  | resm (n : Side)
  | resbl
  | audio (port : AudioPort)
  | grp (n : Side)
  | enam (n : Side)
  | enabl
  | hmp (n : Side)
  | hmm (n : Side)
  | hmbl
  | vdelp (n : Side)
  | vdelbl
  | resmp (n : Side)
  | hmove
  | hmclr
  | cxclr
  deriving DecidableEq, Repr

/-- The write registers 0x00 to 0x2C in order (R241). -/
def tiaRegMap : List TiaReg :=
  [.vsync, .vblank, .wsync, .rsync, .nusiz .zero, .nusiz .one, .colup .zero, .colup .one,
   .colupf, .colubk, .ctrlpf, .refp .zero, .refp .one, .pf0, .pf1, .pf2] ++
  [.resp .zero, .resp .one, .resm .zero, .resm .one, .resbl, .audio .ctrl0, .audio .ctrl1, .audio .freq0,
   .audio .freq1, .audio .vol0, .audio .vol1, .grp .zero, .grp .one, .enam .zero, .enam .one, .enabl] ++
  [.hmp .zero, .hmp .one, .hmm .zero, .hmm .one, .hmbl, .vdelp .zero, .vdelp .one, .vdelbl,
   .resmp .zero, .resmp .one, .hmove, .hmclr, .cxclr]

/-- The write register of number `r` = `a & 0x3F`; none for 0x2D to 0x3F (R241, R261). -/
def tiaRegOf (r : Nat) : Option TiaReg := tiaRegMap[r]?

/-- The read ports of R262: the eight latch bytes, and the ports left to the `TiaInput` oracle. -/
inductive TiaPort where
  | cxmp (n : Side)
  | cxpfb (n : Side)
  | cxmfb (n : Side)
  | cxblpf
  | cxppmm
  | oracle
  deriving DecidableEq, Repr

/-- The read port of number `r` = `a & 0x0F` (R262). -/
def tiaPortOf (r : Nat) : TiaPort :=
  match r with
  | 0 => .cxmp .zero
  | 1 => .cxmp .one
  | 2 => .cxpfb .zero
  | 3 => .cxpfb .one
  | 4 => .cxmfb .zero
  | 5 => .cxmfb .one
  | 6 => .cxblpf
  | 7 => .cxppmm
  | _ => .oracle

/-- R262: the value of a collision port, its latch byte with bits 5:0 zero (D33) and only the bits R263 assigns; `none` for
an oracle port. -/
def Latches.port (c : Latches) : TiaPort → Option Byte
  | .cxmp n => some (c.assigned.cxmp.get n)
  | .cxpfb n => some (c.assigned.cxpfb.get n)
  | .cxmfb n => some (c.assigned.cxmfb.get n)
  | .cxblpf => some c.assigned.cxblpf
  | .cxppmm => some c.assigned.cxppmm
  | .oracle => none

/-- R240: every access to the TIA region first runs the scan catch-up at its Clock. -/
def State.catchUp (s : State) : State := s.setTia (s.tia.catchUp s.params s.clock)

/-- R240, R305: the audio `step()` hook, once per register access. -/
def State.audioStep (s : State) : State := s.emit .audioStep

/-- A byte of a RIOT I/O register or an oracle TIA port: the next free value (log 6). -/
def State.freeByte (s : State) : Byte × State := (Config.freeByte s.draws, s.drew 1)

/-- A TIA read of port number `r` (R240, R262): catch up, then the port's value. -/
def tiaRead (r : Nat) (s : State) : Byte × State :=
  match s.catchUp.tia.latch.port (tiaPortOf r) with
  | some b => (b, s.catchUp.audioStep)
  | none => (s.catchUp.audioStep.freeByte.1, s.catchUp.audioStep.freeByte.2)

/-- R242, R300: a write to VSYNC after the catch-up. -/
def writeVsync (v : Byte) (s : State) : State :=
  if bitOf v 1 then
    if s.tia.isVsync then s.setTia { s.tia with vsync := v }
    else (s.emit (.displayFlush s.tia.display)).setTia { s.tia with vsync := v, isVsync := true }
  else
    if s.tia.isVsync then
      s.setTia { s.tia with vsync := v, isVsync := false, screenStart := s.tia.frameOrigin s.clock }
    else s.setTia { s.tia with vsync := v }

/-- The effect of a register on the TIA's own state at Clock `clock` (R246 to R261); the registers that act
on more than the TIA's own state (`writeReg`) leave it as it is here. -/
def Tia.write (p : Params) (clock : Nat) (t : Tia) (v : Byte) : TiaReg → Tia
  | .nusiz n => { t with nusiz := t.nusiz.set n v }
  | .colup n => { t with colup := t.colup.set n v }
  | .colupf => { t with colupf := v }
  | .colubk => { t with colubk := v }
  | .ctrlpf => { t with ctrlpf := v }
  | .refp n => { t with refp := t.refp.set n v }
  | .pf0 => { t with pf0 := v }
  | .pf1 => { t with pf1 := v }
  | .pf2 => { t with pf2 := v }
  | .resp n => { t with resp := t.resp.set n (strobePosition (t.hpos clock) p.resOffsetP frameWidth) }
  | .resm n => { t with resm := t.resm.set n (strobePosition (t.hpos clock) p.resOffsetMB frameWidth) }
  | .resbl => { t with resbl := strobePosition (t.hpos clock) p.resOffsetMB horizontalTicks }
  | .grp n => t.writeGrp n v
  | .enam n => { t with enam := t.enam.set n v }
  | .enabl => { t with enabl := v }
  | .hmp n => { t with hmp := t.hmp.set n v }
  | .hmm n => { t with hmm := t.hmm.set n v }
  | .hmbl => { t with hmbl := v }
  | .vdelp n => { t with vdelp := t.vdelp.set n v }
  | .vdelbl => { t with vdelbl := v }
  | .resmp n => { t with resmp := t.resmp.set n v }
  | .vblank => { t with vblank := v }
  | .hmove => t.hmove clock
  | .hmclr => t.hmclr
  | .cxclr => t.cxclr
  | .vsync => t
  | .wsync => t
  | .rsync => t
  | .audio _ => t

/-- The effect of a write of `v` to a register, after the catch-up (R242 to R261). RSYNC, and RESMPn with bit 1 of
`v` set, are refused, as R245 and R260 say. -/
def writeReg (r : TiaReg) (v : Byte) (s : State) : Result State :=
  match r with
  | .vsync => .next (writeVsync v s)
  | .vblank => .next ((s.emit (.inputControl v)).setTia (s.tia.write s.params s.clock v .vblank))
  | .wsync => .next (s.setClock (s.tia.wsyncClock s.clock))
  | .rsync => .refused .rsyncWrite
  | .resmp n =>
    if bitOf v 1 then .refused (.resmpLock n) else .next (s.setTia (s.tia.write s.params s.clock v (.resmp n)))
  | .audio port => .next (s.emit (.audioWrite port v s.clock))
  | r => .next (s.setTia (s.tia.write s.params s.clock v r))

/-- A TIA write to register number `r` (R240): catch up, the register's effect, the audio hook. A number with no
register only catches up and runs the hook (R261). -/
def tiaWrite (r : Nat) (v : Byte) (s : State) : Result State :=
  match tiaRegOf r with
  | none => .next s.catchUp.audioStep
  | some reg => andThen (writeReg reg v s.catchUp) fun t => .next t.audioStep

end Sys2Proof.Machine
end

