-- ==== Sys2Proof/Machine/Ops.lean ====
section
/-! DEFINITION. The bus router and its accesses (20_memory.md), the stack, trap entry and return (60_exceptions.md section 3), reset, and loading a cartridge. -/

namespace Sys2Proof.Machine

/-- Where the router sends an access (R41). -/
inductive Target where
  /-- The cartridge, at a 12-bit offset. -/
  | cart (offset : Nat)
  /-- `RAM[index]`. -/
  | ram (index : Nat)
  /-- The RIOT I/O and timer registers. -/
  | riotIo
  /-- The TIA: its write register and its read port number. -/
  | tia (reg port : Nat)
  deriving DecidableEq, Repr

/-- The low 13 bits of an address, the significant ones (R40). -/
def busAddr (addr : Addr) : Nat := addr.toNat % 0x2000

/-- R41 step 1: the cartridge is selected, "bits match `0x1000`". -/
def selectsCart (a : Nat) : Bool := a.testBit 12

/-- R41 step 2: RIOT select. -/
def selectsRiot (a : Nat) : Bool := a.testBit 7

/-- R41 step 3: the stack window. -/
def inStackWindow (a : Nat) : Bool := 0x0100 ≤ a && a < 0x0200

/-- R41 step 4: TIA select. -/
def selectsTia (a : Nat) : Bool := !a.testBit 7

/-- The router (R41): the first match wins; `none` is "no match". -/
def route (addr : Addr) : Option Target :=
  let a := busAddr addr
  if selectsCart a then some (.cart (a % 0x1000))
  else if selectsRiot a then (if a.testBit 9 then some .riotIo else some (.ram (a % 0x80)))
  else if inStackWindow a then some (.ram (a % 0x80))
  else if selectsTia a then some (.tia (a % 0x40) (a % 0x10))
  else none

/-- The 12-bit offset the bus hands to the cartridge (R41, R50). -/
def cartOffset (o : Nat) : BitVec 12 := BitVec.ofNat 12 o

/-- `Cart.read` of the launch's cartridge (R50): the ROM byte of the single-bank cartridge, which keeps no state (R51),
or what another collaborator answers, which may refuse the offset (R48, log 20). -/
def cartRead (o : Nat) (s : State) : Option (Byte × State) :=
  match s.params.cart with
  | .singleBank => some (Memory.read s.mem (romKey o), s)
  | .other k => (Config.cartRead k s.cart (cartOffset o)).map fun r => (r.1, s.setCart r.2)

/-- `Cart.write` of the launch's cartridge (R50): discarded by the single-bank cartridge (R51), else what another
collaborator makes of it, which may refuse the offset (R48, log 20). -/
def cartWrite (o : Nat) (v : Byte) (s : State) : Option State :=
  match s.params.cart with
  | .singleBank => some s
  | .other k => (Config.cartWrite k s.cart (cartOffset o) v).map s.setCart

/-- What a collaborator answered to the access at `addr`, or `InvalidAddress(addr)` where it refused it (R48, R322). -/
def answered {α : Type} (addr : Addr) (r : Option α) : Result α :=
  match r with
  | some a => .next a
  | none => .fault (.invalidAddress addr)

/-- The address the RIOT I/O collaborator is handed. DESIGN CHOICE (log 19): R53 says only
`read(address)` and `write(address, data)`; the model hands over the 13-bit `a` of R40, so that the eight images of a register are one. -/
def riotAddr (addr : Addr) : Addr := addr &&& 0x1FFF

/-- Whether the launch's RIOT I/O collaborator takes an access at `addr` (R48): the default oracle takes every one (R53,
R336), another refuses the addresses it does not decode (log 21). -/
def State.riotTakes (s : State) (kind : Access) (addr : Addr) : Bool :=
  match s.params.riotIO with
  | .oracle => true
  | .other k => Config.riotDecodes k kind (riotAddr addr)

/-- A RIOT I/O read: a draw (R53, log 6), where the collaborator takes the access (R48). -/
def riotRead (addr : Addr) (s : State) : Option (Byte × State) :=
  if s.riotTakes .read addr then some s.freeByte else none

/-- A RIOT I/O write: delivered to the collaborator (R53, logs 7 and 19), where it takes the access (R48). -/
def riotWrite (addr : Addr) (v : Byte) (s : State) : Option State :=
  if s.riotTakes .write addr then some (s.emit (.riotWrite (riotAddr addr) v s.clock)) else none

/-- `Bus.read(addr)` (R41 to R48). -/
def busRead (addr : Addr) (s : State) : Result (Byte × State) :=
  match route addr with
  | some (.cart o) => answered addr (cartRead o s)
  | some (.ram i) => .next (Memory.read s.mem (ramKey i), s)
  | some .riotIo => answered addr (riotRead addr s)
  | some (.tia _ port) => .next (tiaRead port s)
  | none => .fault (.invalidAddress addr)

/-- `Bus.write(addr, v)` (R41 to R48). A RIOT I/O write hands over the address that `riotAddr` gives (log 19). -/
def busWrite (addr : Addr) (v : Byte) (s : State) : Result State :=
  match route addr with
  | some (.cart o) => answered addr (cartWrite o v s)
  | some (.ram i) => .next (s.setMem (Memory.write s.mem (ramKey i) v))
  | some .riotIo => answered addr (riotWrite addr v s)
  | some (.tia reg _) => tiaWrite reg v s
  | none => .fault (.invalidAddress addr)

/-- `Bus.read16(addr)`, R44: the low byte first, the successor address modulo 65536. -/
def busRead16 (addr : Addr) (s : State) : Result (Addr × State) :=
  andThen (busRead addr s) fun lo =>
    andThen (busRead (addr + 1) lo.2) fun hi => .next (joinBytes lo.1 hi.1, hi.2)

/-- The key of the storage byte behind an address, ROM being the single-bank cartridge's; `none` for a device register. -/
def storageKey (addr : Addr) : Option Nat :=
  match route addr with
  | some (.cart o) => some (romKey o)
  | some (.ram i) => some (ramKey i)
  | _ => none

/-- The storage byte behind an address, without an access: RAM, or the ROM of the single-bank cartridge; `none` for a
device register and for any other cartridge, whose bytes are its own. -/
def State.peek (s : State) (addr : Addr) : Option Byte :=
  match route addr with
  | some (.ram i) => some (Memory.read s.mem (ramKey i))
  | some (.cart o) => if s.params.cart = .singleBank then some (Memory.read s.mem (romKey o)) else none
  | _ => none

/-- Place a storage byte, ROM included, without an access: for loading, not for execution. -/
def State.poke (s : State) (addr : Addr) (v : Byte) : State :=
  match storageKey addr with
  | some k => s.setMem (Memory.write s.mem k v)
  | none => s

/-- The bus address of the stack byte `S` addresses, `0x0100 + S` (R13, R45). -/
def stackAddr (sp : Byte) : Addr := 0x0100 + sp.setWidth 16

/-- `Push(v)`, R15. -/
def push (v : Byte) (s : State) : Result State :=
  andThen (busWrite (stackAddr s.sp) v s) fun t => .next (t.setSp (t.sp - 1))

/-- `Pull()`, R15. -/
def pull (s : State) : Result (Byte × State) :=
  busRead (stackAddr (s.sp + 1)) (s.setSp (s.sp + 1))

/-- Push a return address, high byte first (R57). -/
def pushAddr (ret : Addr) (s : State) : Result State :=
  andThen (push (hiByte ret) s) (push (loByte ret))

/-- Pull a return address, low byte first (R57). -/
def pullAddr (s : State) : Result (Addr × State) :=
  andThen (pull s) fun lo => andThen (pull lo.2) fun hi => .next (joinBytes lo.1 hi.1, hi.2)

/-- One flag as a bit. -/
def flagBit (b : Bool) : BitVec 1 := BitVec.ofBool b

/-- `Pbyte(1)` = `N::V::1::1::D::I::Z::C` (R18). -/
def pushedStatus (f : Flags) : Byte :=
  flagBit f.n ++ flagBit f.v ++ 1#1 ++ 1#1 ++ flagBit f.d ++ flagBit f.i ++ flagBit f.z ++ flagBit f.c

/-- The flags of a pulled status byte; bits 5 and 4 are discarded (R18). -/
def pulledFlags (p : Byte) : Flags where
  n := bitOf p 7
  v := bitOf p 6
  d := bitOf p 3
  i := bitOf p 2
  z := bitOf p 1
  c := bitOf p 0

/-- Taking the trap (R192, R326), the ONE shared entry: save the return address and the status on the stack,
set `I`, and go through the two-byte vector at `vector`, at a cost of `cycles`. -/
def takeTrap (ret vector : Addr) (cycles : Nat) (s : State) : Result State :=
  andThen (pushAddr ret s) fun s1 =>
    andThen (push (pushedStatus s1.flags) s1) fun s2 =>
      andThen (busRead16 vector (s2.setFlags { s2.flags with i := true })) fun dest =>
        .next ((dest.2.charge cycles).setPc dest.1)

/-- Returning from the trap (R193, R328): the six flags, then the return address, with no increment. -/
def returnFromTrap (cycles : Nat) (s : State) : Result State :=
  andThen (pull s) fun p =>
    andThen (pullAddr (p.2.setFlags (pulledFlags p.1))) fun dest =>
      .next ((dest.2.charge cycles).setPc dest.1)

/-- The reset vector's address (R354). -/
def resetVector : Addr := 0xFFFC

/-- The BRK vector's address (R192). -/
def brkVector : Addr := 0xFFFE

/-- `reset()`, R354: `PC` from the reset vector, nothing else, no cycles; the two reads may raise `InvalidAddress`.
DESIGN CHOICE (log 22): where the cartridge changes its `CartState` on a read (R46), the second read sees what the first
left, and after `reset()` `CartState` is as before, since R354 and R356 list it as unchanged. -/
def applyReset (s : State) : Result State :=
  andThen (busRead16 resetVector s) fun v => .next (s.setPc v.1)

/-- The byte a cartridge image holds at offset `o` (R51): an image of 2048 bytes is used twice, a shorter or other
image is extended with 0x00. -/
def romByte (image : List Byte) (o : Nat) : Byte :=
  image.getD (if image.length = 2048 then o % 2048 else o) 0

/-- The ROM cells of a cartridge image, in canonical form. -/
def romCells (image : List Byte) : Memory :=
  (List.range 4096).filterMap fun o =>
    if romByte image o = Memory.unlisted then none else some (romKey o, romByte image o)

/-- The single-bank cartridge with an image of at most 4096 bytes as its ROM (R51); a longer one needs another `Cart` (R52). -/
def loadSingleBank (image : List Byte) (s : State) : Result State :=
  if 4096 < image.length then .refused (.bankedCartridge image.length)
  else .next (s.setMem (s.mem.filter (fun c => c.1 < 0x1000) ++ romCells image))

/-- Load a cartridge image at power-on into the launch's cartridge (R50, R51, R323, R350): an empty one is
`BadCartridge`; a collaborator other than the single bank makes its `CartState` of the bytes (R353, log 20). -/
def load (image : List Byte) (s : State) : Result State :=
  if image.length = 0 then .fault .badCartridge
  else
    match s.params.cart with
    | .singleBank => loadSingleBank image s
    | .other k => .next (s.setCart (Config.cartInit k image))

/-- The TIA at power-on (R33, R352, R356): registers and LineState are the launch parameter `t`, and so are the positions, in
the ranges of R356, and the latches, in the bits R263 assigns (log 4); `lastUpdate`, `screenStart` and `isVsync` are fixed, and nothing is painted. -/
def Tia.atPowerOn (t : Tia) : Tia :=
  { t with
    resp := ⟨t.resp.zero % frameWidth, t.resp.one % frameWidth⟩
    resm := ⟨t.resm.zero % frameWidth, t.resm.one % frameWidth⟩
    resbl := t.resbl % horizontalTicks
    latch := t.latch.assigned
    display := [], lastUpdate := 0, screenStart := 0, isVsync := false }

/-- Power-on with the launch parameters `p` (R33, R356): what the spec leaves unspecified (A, X, Y, S, the flags and RAM:
R351, R353) and the TIA's launch parameter (R352) are as in `u`; everything else has its one value. -/
def State.atPowerOn (p : Params) (u : State) : State :=
  { State.powerOn with
    params := p, a := u.a, x := u.x, y := u.y, sp := u.sp, flags := u.flags
    mem := u.mem.filter (fun c => c.1 < 0x1000), tia := u.tia.atPowerOn }

/-- A launch (R350): power-on with the parameters `p` and the open values of `u`, the cartridge image, then `reset()`. -/
def launch (p : Params) (u : State) (image : List Byte) : Result State :=
  andThen (load image (State.atPowerOn p u)) applyReset

end Sys2Proof.Machine
end

