-- ==== Sys2Proof/Machine/Flags.lean ====
section
/-! DEFINITION. Flag computations and the ALU paths (42_arithmetic_logic.md, 43_shift_rotate.md). -/

namespace Sys2Proof.Machine

/-- `SetNZ(v)` on the flags: "`N` = bit 7 of result; `Z` = result == 0" (R19). -/
def Flags.setNZ (f : Flags) (v : Byte) : Flags := { f with n := bitOf v 7, z := v == 0 }

/-- `C <- b`. -/
def Flags.setC (f : Flags) (b : Bool) : Flags := { f with c := b }

/-- `V <- b`. -/
def Flags.setV (f : Flags) (b : Bool) : Flags := { f with v := b }

/-- `SetNZ(v)` (R19). -/
def State.setNZ (s : State) (v : Byte) : State := s.setFlags (s.flags.setNZ v)

/-- `A <- v; SetNZ(v)`. -/
def State.loadA (s : State) (v : Byte) : State := (s.setA v).setNZ v

/-- `X <- v; SetNZ(v)`. -/
def State.loadX (s : State) (v : Byte) : State := (s.setX v).setNZ v

/-- `Y <- v; SetNZ(v)`. -/
def State.loadY (s : State) (v : Byte) : State := (s.setY v).setNZ v

/-- The carry as a number. -/
def carryNat (c : Bool) : Nat := if c then 1 else 0

/-- A result byte and the carry that goes with it. -/
structure Alu where
  res : Byte
  carry : Bool
  deriving DecidableEq, Repr

/-- The binary sum of R141: `sum = A + v + C`, `C <- sum > 255`. -/
def addBinary (a v : Byte) (c : Bool) : Alu :=
  let sum := a.toNat + v.toNat + carryNat c
  ⟨BitVec.ofNat 8 sum, 255 < sum⟩

/-- R141: `V <- ((A ^ res) & (v ^ res) & 0x80) != 0`. -/
def addOverflow (a v res : Byte) : Bool := bitOf ((a ^^^ res) &&& (v ^^^ res)) 7

/-- The binary difference of R143: `diff = A - v - (1 - C)`, `C <- diff >= 0`. -/
def subBinary (a v : Byte) (c : Bool) : Alu :=
  let diff : Int := (a.toNat : Int) - v.toNat - (1 - carryNat c)
  ⟨BitVec.ofInt 8 diff, 0 ≤ diff⟩

/-- R143: `V <- ((A ^ v) & (A ^ res) & 0x80) != 0`. -/
def subOverflow (a v res : Byte) : Bool := bitOf ((a ^^^ v) &&& (a ^^^ res)) 7

/-- R142: the low digit `al` after its adjustment. -/
def decimalAddLow (a v : Byte) (c : Bool) : Nat :=
  let al := a.toNat % 16 + v.toNat % 16 + carryNat c
  if 0x0A ≤ al then (al + 0x06) % 16 + 0x10 else al

/-- The decimal sum of R142. -/
def addDecimal (a v : Byte) (c : Bool) : Alu :=
  let s := a.toNat / 16 * 16 + v.toNat / 16 * 16 + decimalAddLow a v c
  let s := if 0xA0 ≤ s then s + 0x60 else s
  ⟨BitVec.ofNat 8 s, 0x100 ≤ s⟩

/-- R144: the low digit `al` after its adjustment. -/
def decimalSubLow (a v : Byte) (c : Bool) : Int :=
  let al : Int := (a.toNat % 16 : Nat) - (v.toNat % 16 : Nat) + carryNat c - 1
  if al < 0 then (al - 0x06) % 16 - 0x10 else al

/-- The decimal difference of R144; its carry is that of the binary difference. -/
def subDecimal (a v : Byte) (c : Bool) : Alu :=
  let s : Int := (a.toNat / 16 * 16 : Nat) - (v.toNat / 16 * 16 : Nat) + decimalSubLow a v c
  let s := if s < 0 then s - 0x60 else s
  ⟨BitVec.ofInt 8 s, (subBinary a v c).carry⟩

/-- The flags of a binary ADC or SBC: N, Z of the result, C, V (R141, R143). -/
def Flags.binaryResult (f : Flags) (r : Alu) (v : Bool) : Flags := ((f.setNZ r.res).setC r.carry).setV v

/-- The flags of a decimal ADC or SBC: C and Z of the result, N and V the free values of draws `k` and `k + 1`
(R142, R144, log 6). -/
def Flags.decimalResult (f : Flags) (r : Alu) (k : Nat) : Flags :=
  { f with n := Config.freeFlag k, v := Config.freeFlag (k + 1), z := r.res == 0, c := r.carry }

/-- Put a decimal result into A with its flags: two draws. -/
def State.decimalA (s : State) (r : Alu) : State :=
  ((s.setA r.res).setFlags (s.flags.decimalResult r s.draws)).drew 2

/-- ADC on the operand byte `v` (R141, R142). -/
def State.adc (s : State) (v : Byte) : State :=
  if s.flags.d then s.decimalA (addDecimal s.a v s.flags.c)
  else
    let r := addBinary s.a v s.flags.c
    (s.setA r.res).setFlags (s.flags.binaryResult r (addOverflow s.a v r.res))

/-- SBC on the operand byte `v` (R143, R144). -/
def State.sbc (s : State) (v : Byte) : State :=
  if s.flags.d then s.decimalA (subDecimal s.a v s.flags.c)
  else
    let r := subBinary s.a v s.flags.c
    (s.setA r.res).setFlags (s.flags.binaryResult r (subOverflow s.a v r.res))

/-- The compare of R149: N, Z of the wrapped difference, `C <- reg >= v` unsigned. -/
def Flags.compare (f : Flags) (reg v : Byte) : Flags := (f.setNZ (reg - v)).setC (v ≤ reg)

/-- Compare a register with `v` (R149). -/
def State.compare (s : State) (reg v : Byte) : State := s.setFlags (s.flags.compare reg v)

/-- BIT on the operand byte `v`: `Z <- (A & v) == 0; N <- v[7]; V <- v[6]` (R148). -/
def State.bitTest (s : State) (v : Byte) : State :=
  s.setFlags { s.flags with n := bitOf v 7, v := bitOf v 6, z := (s.a &&& v) == 0 }

/-- A shift or rotate: the bit shifted out is the carry (R170). -/
def shiftLeft (v : Byte) (bitIn : Bool) : Alu := ⟨v <<< 1 ||| (BitVec.ofBool bitIn).setWidth 8, bitOf v 7⟩

/-- As `shiftLeft`, to the right; the bit shifted in becomes bit 7. -/
def shiftRight (v : Byte) (bitIn : Bool) : Alu := ⟨v >>> 1 ||| (BitVec.ofBool bitIn).setWidth 8 <<< 7, bitOf v 0⟩

/-- ASL (R171), LSR (R172), ROL (R173), ROR (R174) on a byte with the old carry. -/
def aslByte (v : Byte) (_ : Bool) : Alu := shiftLeft v false
/-- LSR (R172). -/
def lsrByte (v : Byte) (_ : Bool) : Alu := shiftRight v false
/-- ROL (R173). -/
def rolByte (v : Byte) (c : Bool) : Alu := shiftLeft v c
/-- ROR (R174). -/
def rorByte (v : Byte) (c : Bool) : Alu := shiftRight v c

/-- The flags of a shift or rotate: N, Z of the result, C the bit shifted out (R171 to R174). -/
def State.shiftFlags (s : State) (r : Alu) : State := s.setFlags ((s.flags.setNZ r.res).setC r.carry)

/-- A read-modify-write semantics: the byte handed to the write strategy, and the state with its flags. -/
abbrev Modify := Byte → State → Byte × State

/-- A shift or rotate as read-modify-write semantics (R170). -/
def shiftModify (op : Byte → Bool → Alu) : Modify := fun v s => ((op v s.flags.c).res, s.shiftFlags (op v s.flags.c))

/-- INC: `r = (v + 1) & 0xFF; SetNZ(r)` (R152). -/
def incModify : Modify := fun v s => (v + 1, s.setNZ (v + 1))

/-- DEC: `r = (v - 1) & 0xFF; SetNZ(r)` (R153). -/
def decModify : Modify := fun v s => (v - 1, s.setNZ (v - 1))

/-- SLO: ASL, then ORA; N and Z from A (R221). -/
def sloModify : Modify := fun v s =>
  ((aslByte v s.flags.c).res, (s.setFlags (s.flags.setC (aslByte v s.flags.c).carry)).loadA (s.a ||| (aslByte v s.flags.c).res))

/-- DCP: DEC, then CMP (R226). -/
def dcpModify : Modify := fun v s => (v - 1, s.compare s.a (v - 1))

/-- ALR: AND, then shift A right; `C <- t[0]` (R223). -/
def State.alr (s : State) (v : Byte) : State :=
  (s.setFlags (s.flags.setC (lsrByte (s.a &&& v) s.flags.c).carry)).loadA (lsrByte (s.a &&& v) s.flags.c).res

/-- SBX: `t = A & X; C <- t >= v; X <- t - v; SetNZ(X)` (R224). -/
def State.sbx (s : State) (v : Byte) : State := (s.compare (s.a &&& s.x) v).setX ((s.a &&& s.x) - v)

end Sys2Proof.Machine
end

