-- ==== Sys2Proof/Machine/Operands.lean ====
section
/-! DEFINITION. The addressing unit, the operand transfer unit and the generic execution protocol (40_addressing_and_execution.md). -/

namespace Sys2Proof.Machine

/-- An operand: one of the formats of R71 with its operand bytes. -/
inductive Operand where
  | imp
  | acc
  | imm (v : Byte)
  | zp (z : Byte)
  | zpx (z : Byte)
  | zpy (z : Byte)
  | rel (d : Byte)
  | abs (w : Addr)
  | abx (w : Addr)
  | aby (w : Addr)
  | ind (w : Addr)
  | izx (z : Byte)
  | izy (z : Byte)
  deriving DecidableEq, Repr

/-- `operand_size`: the operand bytes of a format (R70, R71). -/
def Operand.size : Operand → Nat
  | .imp => 0
  | .acc => 0
  | .imm _ => 1
  | .zp _ => 1
  | .zpx _ => 1
  | .zpy _ => 1
  | .rel _ => 1
  | .abs _ => 2
  | .abx _ => 2
  | .aby _ => 2
  | .ind _ => 2
  | .izx _ => 1
  | .izy _ => 1

/-- An effective address and whether the indexing crossed a page (R98). -/
structure Effective where
  addr : Addr
  crossed : Bool
  deriving DecidableEq, Repr

/-- A zero-page byte as an address (R92). -/
def zeroPage (z : Byte) : Addr := z.setWidth 16

/-- An address without indexing: never a page crossing (R98). -/
def plainEffective (a : Addr) : Effective := ⟨a, false⟩

/-- `EA = (base + index) & 0xFFFF`, `crossed = hi(base) != hi(EA)` (R96, R97, R100). -/
def indexed (base : Addr) (index : Byte) : Effective :=
  ⟨base + index.setWidth 16, hiByte base != hiByte (base + index.setWidth 16)⟩

/-- A zero-page pointer at `p`: low byte at `p`, high byte at `(p + 1) & 0xFF` (R99, R100). -/
def zeroPagePointer (p : Byte) (s : State) : Result (Addr × State) :=
  andThen (busRead (zeroPage p) s) fun lo =>
    andThen (busRead (zeroPage (p + 1)) lo.2) fun hi => .next (joinBytes lo.1 hi.1, hi.2)

/-- R101: the address of the high byte of JMP (ind)'s pointer. -/
def indirectHighAddr (wrap : Bool) (ptr : Addr) : Addr :=
  if wrap then joinBytes (loByte ptr + 1) (hiByte ptr) else ptr + 1

/-- R101: the jump target behind the pointer of JMP (ind). -/
def indirectTarget (ptr : Addr) (s : State) : Result (Addr × State) :=
  andThen (busRead ptr s) fun lo =>
    andThen (busRead (indirectHighAddr s.params.jmpIndPageWrap ptr) lo.2) fun hi => .next (joinBytes lo.1 hi.1, hi.2)

/-- The effective address of an operand (R91 to R103), with the state after its pointer reads, which are made at the
Clock of the start of the instruction (R105). The operand bytes themselves were read by the fetch. -/
def effective (o : Operand) (s : State) : Result (Effective × State) :=
  match o with
  | .imp => .next (plainEffective 0, s)
  | .acc => .next (plainEffective 0, s)
  | .imm _ => .next (plainEffective (s.pc + 1), s)
  | .zp z => .next (plainEffective (zeroPage z), s)
  | .zpx z => .next (plainEffective (zeroPage (z + s.x)), s)
  | .zpy z => .next (plainEffective (zeroPage (z + s.y)), s)
  | .rel _ => .next (plainEffective (s.pc + 1), s)
  | .abs w => .next (plainEffective w, s)
  | .abx w => .next (indexed w s.x, s)
  | .aby w => .next (indexed w s.y, s)
  | .ind w => andThen (indirectTarget w s) fun t => .next (plainEffective t.1, t.2)
  | .izx z => andThen (zeroPagePointer (z + s.x) s) fun t => .next (plainEffective t.1, t.2)
  | .izy z => andThen (zeroPagePointer z s) fun t => .next (indexed t.1 s.y, t.2)

/-- `T_addr` without the page penalty (R109). -/
def Operand.addrCycles : Operand → Nat
  | .imp => 0
  | .acc => 0
  | .imm _ => 0
  | .zp _ => 1
  | .zpx _ => 2
  | .zpy _ => 2
  | .rel _ => 0
  | .abs _ => 2
  | .abx _ => 2
  | .aby _ => 2
  | .ind _ => 2
  | .izx _ => 4
  | .izy _ => 3

/-- `slot.adjust` of store-type and RMW-type instructions (R109). -/
def Operand.storeAdjust : Operand → Nat
  | .abx _ => 1
  | .aby _ => 1
  | .izy _ => 1
  | _ => 0

/-- `slot.adjust` of implied register and flag operations and NOP (R109). -/
def impliedAdjust : Nat := 1

/-- The page penalty of a read-type instruction (R98, R110). -/
def Effective.penalty (e : Effective) : Nat := if e.crossed then 1 else 0

/-- Read and write costs of the four transfer strategies (R104, R109). -/
def busReadCycles : Nat := 2
/-- "2-cycle write-back default" (R104). -/
def busWriteCycles : Nat := 2
/-- The null transfer's read (R104). -/
def nullReadCycles : Nat := 1
/-- The null transfer's write (R104). -/
def nullWriteCycles : Nat := 0
/-- The accumulator transfer's read (R104). -/
def accReadCycles : Nat := 1
/-- The accumulator transfer's write (R109). -/
def accWriteCycles : Nat := 1
/-- The register-write transfer (R104). -/
def registerWriteCycles : Nat := 1

/-- Step 6 of R105: `PC <- (pc + 1 + size) & 0xFFFF`. -/
def State.advance (s : State) (size : Nat) : State := s.setPc (s.pc + 1 + BitVec.ofNat 16 size)

/-- The ordinary bus read of an operand. The immediate byte was read by the fetch, which makes the one access
R112 lists for it, at the same Clock. -/
def readOperand (o : Operand) (ea : Addr) (s : State) : Result (Byte × State) :=
  match o with
  | .imm v => .next (v, s)
  | _ => busRead ea s

/-- A read-type instruction up to its data byte (R105 steps 1 to 3): the byte, and the state when the semantics runs. -/
def operandByte (o : Operand) (s : State) : Result (Byte × State) :=
  andThen (effective o s) fun e =>
    andThen (readOperand o e.1.addr (e.2.charge (o.addrCycles + e.1.penalty))) fun r =>
      .next (r.1, r.2.charge busReadCycles)

/-- A read-type instruction (R105, R111): ordinary bus read, null write. -/
def readInstr (o : Operand) (sem : State → Byte → State) (s : State) : Result State :=
  andThen (operandByte o s) fun r => .next (((sem r.2 r.1).charge nullWriteCycles).advance o.size)

/-- A store-type instruction up to its write (R105 steps 1 to 5): the address, and the state when the write is made. -/
def storeTarget (o : Operand) (s : State) : Result (Addr × State) :=
  andThen (effective o s) fun e =>
    .next (e.1.addr, ((e.2.charge (o.addrCycles + o.storeAdjust)).charge nullReadCycles).charge registerWriteCycles)

/-- A store-type instruction (R105, R111): null read, register-write transfer of `value`. -/
def storeInstr (o : Operand) (value : State → Byte) (s : State) : Result State :=
  andThen (storeTarget o s) fun t =>
    andThen (busWrite t.1 (value s) t.2) fun u => .next (u.advance o.size)

/-- What a read-modify-write instruction has when its write is made. -/
structure Modified where
  addr : Addr
  value : Byte
  state : State

/-- A read-modify-write instruction up to its write (R105 steps 1 to 5). -/
def modifyTarget (o : Operand) (sem : Modify) (s : State) : Result Modified :=
  andThen (effective o s) fun e =>
    andThen (busRead e.1.addr (e.2.charge (o.addrCycles + o.storeAdjust))) fun r =>
      .next ⟨e.1.addr, (sem r.1 (r.2.charge busReadCycles)).1,
        (sem r.1 (r.2.charge busReadCycles)).2.charge busWriteCycles⟩

/-- A memory RMW-type instruction (R105, R111): ordinary bus read and write. -/
def modifyInstr (o : Operand) (sem : Modify) (s : State) : Result State :=
  andThen (modifyTarget o sem s) fun m =>
    andThen (busWrite m.addr m.value m.state) fun u => .next (u.advance o.size)

/-- An accumulator RMW-type instruction (R105, R111): accumulator transfer both ways, no bus access. -/
def accInstr (sem : Modify) (s : State) : Result State :=
  let r := sem s.a (s.charge accReadCycles)
  .next (((r.2.charge accWriteCycles).setA r.1).advance 0)

/-- An implied instruction (R105, R111): null transfer both ways, no bus access after the opcode fetch. -/
def impliedInstr (sem : State → State) (s : State) : Result State :=
  .next (((sem ((s.charge impliedAdjust).charge nullReadCycles)).charge nullWriteCycles).advance 0)

/-- `sext8(d)` added to an address (R73, R180). -/
def displaced (a : Addr) (d : Byte) : Addr := a + d.signExtend 16

/-- The target of a branch at `pc`: `(pc + sext8(d) + 2) & 0xFFFF` (R180). -/
def branchTarget (pc : Addr) (d : Byte) : Addr := displaced pc d + 2

/-- The cycles of a taken branch (R180): the page test compares the target with `pc + 2`. -/
def takenCycles (pc : Addr) (d : Byte) : Nat :=
  2 + 1 + (if hiByte (branchTarget pc d) ≠ hiByte (pc + 2) then 1 else 0)

/-- A conditional branch (R180). -/
def branchInstr (cond : Bool) (d : Byte) (s : State) : Result State :=
  if cond then .next ((s.charge (takenCycles s.pc d)).setPc (branchTarget s.pc d))
  else .next ((s.charge 2).setPc (s.pc + 2))

/-- A push instruction (R201, R202): push, charge, next instruction. -/
def pushInstr (v : Byte) (cycles : Nat) (s : State) : Result State :=
  andThen (push v s) fun t => .next ((t.charge cycles).advance 0)

/-- A pull instruction (R203, R204): pull, use the byte, charge, next instruction. -/
def pullInstr (sem : State → Byte → State) (cycles : Nat) (s : State) : Result State :=
  andThen (pull s) fun r => .next (((sem r.2 r.1).charge cycles).advance 0)

/-- JSR's high operand byte, which is fetched after the two pushes (R190): the byte the fetch read, unless the
pushes changed the storage byte at `addr`, which is then read as it now is. -/
def refetched (before after : State) (addr : Addr) (fetched : Byte) : Byte :=
  if after.peek addr = before.peek addr then fetched else (after.peek addr).getD fetched

/-- JSR to the operand `w` (R190). -/
def callInstr (w : Addr) (s : State) : Result State :=
  andThen (pushAddr (s.pc + 2) s) fun t =>
    .next ((t.charge 6).setPc (joinBytes (loByte w) (refetched s t (s.pc + 2) (hiByte w))))

/-- RTS (R191). -/
def returnInstr (s : State) : Result State :=
  andThen (pullAddr s) fun r => .next ((r.2.charge 6).setPc (r.1 + 1))

/-- JMP abs or ind (R189): the target is the effective address, `cycles` the total. -/
def jumpInstr (o : Operand) (cycles : Nat) (s : State) : Result State :=
  andThen (effective o s) fun e => .next ((e.2.charge cycles).setPc e.1.addr)

end Sys2Proof.Machine
end

