-- ==== Sys2Proof/Machine/Arithmetic.lean ====
section
/-! DEFINITION. Arithmetic, logic, compare, increment and decrement instructions (42_arithmetic_logic.md): one meaning per opcode byte. -/

namespace Sys2Proof.Machine

/-- ADC izx, opcode 61 (R141). -/
def execAdcIzx (z : Byte) (s : State) : Result State :=
  readInstr (.izx z) State.adc s

/-- ADC zp, opcode 65 (R141). -/
def execAdcZp (z : Byte) (s : State) : Result State :=
  readInstr (.zp z) State.adc s

/-- ADC imm, opcode 69 (R141). -/
def execAdcImm (v : Byte) (s : State) : Result State :=
  readInstr (.imm v) State.adc s

/-- ADC abs, opcode 6D (R141). -/
def execAdcAbs (w : Addr) (s : State) : Result State :=
  readInstr (.abs w) State.adc s

/-- ADC izy, opcode 71 (R141). -/
def execAdcIzy (z : Byte) (s : State) : Result State :=
  readInstr (.izy z) State.adc s

/-- ADC zpx, opcode 75 (R141). -/
def execAdcZpx (z : Byte) (s : State) : Result State :=
  readInstr (.zpx z) State.adc s

/-- ADC aby, opcode 79 (R141). -/
def execAdcAby (w : Addr) (s : State) : Result State :=
  readInstr (.aby w) State.adc s

/-- ADC abx, opcode 7D (R141). -/
def execAdcAbx (w : Addr) (s : State) : Result State :=
  readInstr (.abx w) State.adc s

/-- SBC izx, opcode E1 (R143). -/
def execSbcIzx (z : Byte) (s : State) : Result State :=
  readInstr (.izx z) State.sbc s

/-- SBC zp, opcode E5 (R143). -/
def execSbcZp (z : Byte) (s : State) : Result State :=
  readInstr (.zp z) State.sbc s

/-- SBC imm, opcode E9 (R143). -/
def execSbcImm (v : Byte) (s : State) : Result State :=
  readInstr (.imm v) State.sbc s

/-- SBC abs, opcode ED (R143). -/
def execSbcAbs (w : Addr) (s : State) : Result State :=
  readInstr (.abs w) State.sbc s

/-- SBC izy, opcode F1 (R143). -/
def execSbcIzy (z : Byte) (s : State) : Result State :=
  readInstr (.izy z) State.sbc s

/-- SBC zpx, opcode F5 (R143). -/
def execSbcZpx (z : Byte) (s : State) : Result State :=
  readInstr (.zpx z) State.sbc s

/-- SBC aby, opcode F9 (R143). -/
def execSbcAby (w : Addr) (s : State) : Result State :=
  readInstr (.aby w) State.sbc s

/-- SBC abx, opcode FD (R143). -/
def execSbcAbx (w : Addr) (s : State) : Result State :=
  readInstr (.abx w) State.sbc s

/-- AND: `A <- A & v; SetNZ(A)` (R145). -/
def andEffect : State → Byte → State := fun t v => t.loadA (t.a &&& v)

/-- AND izx, opcode 21 (R145). -/
def execAndIzx (z : Byte) (s : State) : Result State :=
  readInstr (.izx z) andEffect s

/-- AND zp, opcode 25 (R145). -/
def execAndZp (z : Byte) (s : State) : Result State :=
  readInstr (.zp z) andEffect s

/-- AND imm, opcode 29 (R145). -/
def execAndImm (v : Byte) (s : State) : Result State :=
  readInstr (.imm v) andEffect s

/-- AND abs, opcode 2D (R145). -/
def execAndAbs (w : Addr) (s : State) : Result State :=
  readInstr (.abs w) andEffect s

/-- AND izy, opcode 31 (R145). -/
def execAndIzy (z : Byte) (s : State) : Result State :=
  readInstr (.izy z) andEffect s

/-- AND zpx, opcode 35 (R145). -/
def execAndZpx (z : Byte) (s : State) : Result State :=
  readInstr (.zpx z) andEffect s

/-- AND aby, opcode 39 (R145). -/
def execAndAby (w : Addr) (s : State) : Result State :=
  readInstr (.aby w) andEffect s

/-- AND abx, opcode 3D (R145). -/
def execAndAbx (w : Addr) (s : State) : Result State :=
  readInstr (.abx w) andEffect s

/-- ORA: `A <- A | v; SetNZ(A)` (R146). -/
def oraEffect : State → Byte → State := fun t v => t.loadA (t.a ||| v)

/-- ORA izx, opcode 01 (R146). -/
def execOraIzx (z : Byte) (s : State) : Result State :=
  readInstr (.izx z) oraEffect s

/-- ORA zp, opcode 05 (R146). -/
def execOraZp (z : Byte) (s : State) : Result State :=
  readInstr (.zp z) oraEffect s

/-- ORA imm, opcode 09 (R146). -/
def execOraImm (v : Byte) (s : State) : Result State :=
  readInstr (.imm v) oraEffect s

/-- ORA abs, opcode 0D (R146). -/
def execOraAbs (w : Addr) (s : State) : Result State :=
  readInstr (.abs w) oraEffect s

/-- ORA izy, opcode 11 (R146). -/
def execOraIzy (z : Byte) (s : State) : Result State :=
  readInstr (.izy z) oraEffect s

/-- ORA zpx, opcode 15 (R146). -/
def execOraZpx (z : Byte) (s : State) : Result State :=
  readInstr (.zpx z) oraEffect s

/-- ORA aby, opcode 19 (R146). -/
def execOraAby (w : Addr) (s : State) : Result State :=
  readInstr (.aby w) oraEffect s

/-- ORA abx, opcode 1D (R146). -/
def execOraAbx (w : Addr) (s : State) : Result State :=
  readInstr (.abx w) oraEffect s

/-- EOR: `A <- A ^ v; SetNZ(A)` (R147). -/
def eorEffect : State → Byte → State := fun t v => t.loadA (t.a ^^^ v)

/-- EOR izx, opcode 41 (R147). -/
def execEorIzx (z : Byte) (s : State) : Result State :=
  readInstr (.izx z) eorEffect s

/-- EOR zp, opcode 45 (R147). -/
def execEorZp (z : Byte) (s : State) : Result State :=
  readInstr (.zp z) eorEffect s

/-- EOR imm, opcode 49 (R147). -/
def execEorImm (v : Byte) (s : State) : Result State :=
  readInstr (.imm v) eorEffect s

/-- EOR abs, opcode 4D (R147). -/
def execEorAbs (w : Addr) (s : State) : Result State :=
  readInstr (.abs w) eorEffect s

/-- EOR izy, opcode 51 (R147). -/
def execEorIzy (z : Byte) (s : State) : Result State :=
  readInstr (.izy z) eorEffect s

/-- EOR zpx, opcode 55 (R147). -/
def execEorZpx (z : Byte) (s : State) : Result State :=
  readInstr (.zpx z) eorEffect s

/-- EOR aby, opcode 59 (R147). -/
def execEorAby (w : Addr) (s : State) : Result State :=
  readInstr (.aby w) eorEffect s

/-- EOR abx, opcode 5D (R147). -/
def execEorAbx (w : Addr) (s : State) : Result State :=
  readInstr (.abx w) eorEffect s

/-- BIT zp, opcode 24 (R148). -/
def execBitZp (z : Byte) (s : State) : Result State :=
  readInstr (.zp z) State.bitTest s

/-- BIT abs, opcode 2C (R148). -/
def execBitAbs (w : Addr) (s : State) : Result State :=
  readInstr (.abs w) State.bitTest s

/-- CMP (R149). -/
def cmpEffect : State → Byte → State := fun t v => t.compare t.a v

/-- CMP izx, opcode C1 (R149). -/
def execCmpIzx (z : Byte) (s : State) : Result State :=
  readInstr (.izx z) cmpEffect s

/-- CMP zp, opcode C5 (R149). -/
def execCmpZp (z : Byte) (s : State) : Result State :=
  readInstr (.zp z) cmpEffect s

/-- CMP imm, opcode C9 (R149). -/
def execCmpImm (v : Byte) (s : State) : Result State :=
  readInstr (.imm v) cmpEffect s

/-- CMP abs, opcode CD (R149). -/
def execCmpAbs (w : Addr) (s : State) : Result State :=
  readInstr (.abs w) cmpEffect s

/-- CMP izy, opcode D1 (R149). -/
def execCmpIzy (z : Byte) (s : State) : Result State :=
  readInstr (.izy z) cmpEffect s

/-- CMP zpx, opcode D5 (R149). -/
def execCmpZpx (z : Byte) (s : State) : Result State :=
  readInstr (.zpx z) cmpEffect s

/-- CMP aby, opcode D9 (R149). -/
def execCmpAby (w : Addr) (s : State) : Result State :=
  readInstr (.aby w) cmpEffect s

/-- CMP abx, opcode DD (R149). -/
def execCmpAbx (w : Addr) (s : State) : Result State :=
  readInstr (.abx w) cmpEffect s

/-- CPX (R150). -/
def cpxEffect : State → Byte → State := fun t v => t.compare t.x v

/-- CPX imm, opcode E0 (R150). -/
def execCpxImm (v : Byte) (s : State) : Result State :=
  readInstr (.imm v) cpxEffect s

/-- CPX zp, opcode E4 (R150). -/
def execCpxZp (z : Byte) (s : State) : Result State :=
  readInstr (.zp z) cpxEffect s

/-- CPX abs, opcode EC (R150). -/
def execCpxAbs (w : Addr) (s : State) : Result State :=
  readInstr (.abs w) cpxEffect s

/-- CPY (R151). -/
def cpyEffect : State → Byte → State := fun t v => t.compare t.y v

/-- CPY imm, opcode C0 (R151). -/
def execCpyImm (v : Byte) (s : State) : Result State :=
  readInstr (.imm v) cpyEffect s

/-- CPY zp, opcode C4 (R151). -/
def execCpyZp (z : Byte) (s : State) : Result State :=
  readInstr (.zp z) cpyEffect s

/-- CPY abs, opcode CC (R151). -/
def execCpyAbs (w : Addr) (s : State) : Result State :=
  readInstr (.abs w) cpyEffect s

/-- INC zp, opcode E6 (R152). -/
def execIncZp (z : Byte) (s : State) : Result State :=
  modifyInstr (.zp z) incModify s

/-- INC abs, opcode EE (R152). -/
def execIncAbs (w : Addr) (s : State) : Result State :=
  modifyInstr (.abs w) incModify s

/-- INC zpx, opcode F6 (R152). -/
def execIncZpx (z : Byte) (s : State) : Result State :=
  modifyInstr (.zpx z) incModify s

/-- INC abx, opcode FE (R152). -/
def execIncAbx (w : Addr) (s : State) : Result State :=
  modifyInstr (.abx w) incModify s

/-- DEC zp, opcode C6 (R153). -/
def execDecZp (z : Byte) (s : State) : Result State :=
  modifyInstr (.zp z) decModify s

/-- DEC abs, opcode CE (R153). -/
def execDecAbs (w : Addr) (s : State) : Result State :=
  modifyInstr (.abs w) decModify s

/-- DEC zpx, opcode D6 (R153). -/
def execDecZpx (z : Byte) (s : State) : Result State :=
  modifyInstr (.zpx z) decModify s

/-- DEC abx, opcode DE (R153). -/
def execDecAbx (w : Addr) (s : State) : Result State :=
  modifyInstr (.abx w) decModify s

/-- INX (R154). -/
def inxEffect : State → State := fun t => t.loadX (t.x + 1)

/-- INX imp, opcode E8 (R154). -/
def execInx (s : State) : Result State :=
  impliedInstr inxEffect s

/-- INY (R155). -/
def inyEffect : State → State := fun t => t.loadY (t.y + 1)

/-- INY imp, opcode C8 (R155). -/
def execIny (s : State) : Result State :=
  impliedInstr inyEffect s

/-- DEX (R156). -/
def dexEffect : State → State := fun t => t.loadX (t.x - 1)

/-- DEX imp, opcode CA (R156). -/
def execDex (s : State) : Result State :=
  impliedInstr dexEffect s

/-- DEY (R157). -/
def deyEffect : State → State := fun t => t.loadY (t.y - 1)

/-- DEY imp, opcode 88 (R157). -/
def execDey (s : State) : Result State :=
  impliedInstr deyEffect s

end Sys2Proof.Machine
end

