-- ==== Sys2Proof/Machine/Control.lean ====
section
/-! DEFINITION. Branches, jumps, call and return, BRK and RTI (44_control_flow.md): one meaning per opcode byte. -/

namespace Sys2Proof.Machine

/-- BPL rel, opcode 10 (R181). -/
def execBplRel (d : Byte) (s : State) : Result State :=
  branchInstr (!s.flags.n) d s

/-- BMI rel, opcode 30 (R182). -/
def execBmiRel (d : Byte) (s : State) : Result State :=
  branchInstr s.flags.n d s

/-- BVC rel, opcode 50 (R183). -/
def execBvcRel (d : Byte) (s : State) : Result State :=
  branchInstr (!s.flags.v) d s

/-- BVS rel, opcode 70 (R184). -/
def execBvsRel (d : Byte) (s : State) : Result State :=
  branchInstr s.flags.v d s

/-- BCC rel, opcode 90 (R185). -/
def execBccRel (d : Byte) (s : State) : Result State :=
  branchInstr (!s.flags.c) d s

/-- BCS rel, opcode B0 (R186). -/
def execBcsRel (d : Byte) (s : State) : Result State :=
  branchInstr s.flags.c d s

/-- BNE rel, opcode D0 (R187). -/
def execBneRel (d : Byte) (s : State) : Result State :=
  branchInstr (!s.flags.z) d s

/-- BEQ rel, opcode F0 (R188). -/
def execBeqRel (d : Byte) (s : State) : Result State :=
  branchInstr s.flags.z d s

/-- JMP abs, opcode 4C (R189). -/
def execJmpAbs (w : Addr) (s : State) : Result State :=
  jumpInstr (.abs w) 3 s

/-- JMP ind, opcode 6C (R189). -/
def execJmpInd (w : Addr) (s : State) : Result State :=
  jumpInstr (.ind w) 5 s

/-- JSR abs, opcode 20 (R190). -/
def execJsrAbs (w : Addr) (s : State) : Result State :=
  callInstr w s

/-- RTS imp, opcode 60 (R191). -/
def execRts (s : State) : Result State :=
  returnInstr s

/-- BRK imp, opcode 00 (R192). -/
def execBrk (s : State) : Result State :=
  takeTrap (s.pc + 2) brkVector 7 s

/-- RTI imp, opcode 40 (R193). -/
def execRti (s : State) : Result State :=
  returnFromTrap 6 s

end Sys2Proof.Machine
end

