-- ==== Sys2Proof/Machine/LoadStore.lean ====
section
/-! DEFINITION. Load, store and register-transfer instructions (41_load_store_transfer.md): one meaning per opcode byte. -/

namespace Sys2Proof.Machine

/-- LDA izx, opcode A1 (R121). -/
def execLdaIzx (z : Byte) (s : State) : Result State :=
  readInstr (.izx z) State.loadA s

/-- LDA zp, opcode A5 (R121). -/
def execLdaZp (z : Byte) (s : State) : Result State :=
  readInstr (.zp z) State.loadA s

/-- LDA imm, opcode A9 (R121). -/
def execLdaImm (v : Byte) (s : State) : Result State :=
  readInstr (.imm v) State.loadA s

/-- LDA abs, opcode AD (R121). -/
def execLdaAbs (w : Addr) (s : State) : Result State :=
  readInstr (.abs w) State.loadA s

/-- LDA izy, opcode B1 (R121). -/
def execLdaIzy (z : Byte) (s : State) : Result State :=
  readInstr (.izy z) State.loadA s

/-- LDA zpx, opcode B5 (R121). -/
def execLdaZpx (z : Byte) (s : State) : Result State :=
  readInstr (.zpx z) State.loadA s

/-- LDA aby, opcode B9 (R121). -/
def execLdaAby (w : Addr) (s : State) : Result State :=
  readInstr (.aby w) State.loadA s

/-- LDA abx, opcode BD (R121). -/
def execLdaAbx (w : Addr) (s : State) : Result State :=
  readInstr (.abx w) State.loadA s

/-- LDX imm, opcode A2 (R122). -/
def execLdxImm (v : Byte) (s : State) : Result State :=
  readInstr (.imm v) State.loadX s

/-- LDX zp, opcode A6 (R122). -/
def execLdxZp (z : Byte) (s : State) : Result State :=
  readInstr (.zp z) State.loadX s

/-- LDX abs, opcode AE (R122). -/
def execLdxAbs (w : Addr) (s : State) : Result State :=
  readInstr (.abs w) State.loadX s

/-- LDX zpy, opcode B6 (R122). -/
def execLdxZpy (z : Byte) (s : State) : Result State :=
  readInstr (.zpy z) State.loadX s

/-- LDX aby, opcode BE (R122). -/
def execLdxAby (w : Addr) (s : State) : Result State :=
  readInstr (.aby w) State.loadX s

/-- LDY imm, opcode A0 (R123). -/
def execLdyImm (v : Byte) (s : State) : Result State :=
  readInstr (.imm v) State.loadY s

/-- LDY zp, opcode A4 (R123). -/
def execLdyZp (z : Byte) (s : State) : Result State :=
  readInstr (.zp z) State.loadY s

/-- LDY abs, opcode AC (R123). -/
def execLdyAbs (w : Addr) (s : State) : Result State :=
  readInstr (.abs w) State.loadY s

/-- LDY zpx, opcode B4 (R123). -/
def execLdyZpx (z : Byte) (s : State) : Result State :=
  readInstr (.zpx z) State.loadY s

/-- LDY abx, opcode BC (R123). -/
def execLdyAbx (w : Addr) (s : State) : Result State :=
  readInstr (.abx w) State.loadY s

/-- STA izx, opcode 81 (R124). -/
def execStaIzx (z : Byte) (s : State) : Result State :=
  storeInstr (.izx z) State.a s

/-- STA zp, opcode 85 (R124). -/
def execStaZp (z : Byte) (s : State) : Result State :=
  storeInstr (.zp z) State.a s

/-- STA abs, opcode 8D (R124). -/
def execStaAbs (w : Addr) (s : State) : Result State :=
  storeInstr (.abs w) State.a s

/-- STA izy, opcode 91 (R124). -/
def execStaIzy (z : Byte) (s : State) : Result State :=
  storeInstr (.izy z) State.a s

/-- STA zpx, opcode 95 (R124). -/
def execStaZpx (z : Byte) (s : State) : Result State :=
  storeInstr (.zpx z) State.a s

/-- STA aby, opcode 99 (R124). -/
def execStaAby (w : Addr) (s : State) : Result State :=
  storeInstr (.aby w) State.a s

/-- STA abx, opcode 9D (R124). -/
def execStaAbx (w : Addr) (s : State) : Result State :=
  storeInstr (.abx w) State.a s

/-- STX zp, opcode 86 (R125). -/
def execStxZp (z : Byte) (s : State) : Result State :=
  storeInstr (.zp z) State.x s

/-- STX abs, opcode 8E (R125). -/
def execStxAbs (w : Addr) (s : State) : Result State :=
  storeInstr (.abs w) State.x s

/-- STX zpy, opcode 96 (R125). -/
def execStxZpy (z : Byte) (s : State) : Result State :=
  storeInstr (.zpy z) State.x s

/-- STY zp, opcode 84 (R126). -/
def execStyZp (z : Byte) (s : State) : Result State :=
  storeInstr (.zp z) State.y s

/-- STY abs, opcode 8C (R126). -/
def execStyAbs (w : Addr) (s : State) : Result State :=
  storeInstr (.abs w) State.y s

/-- STY zpx, opcode 94 (R126). -/
def execStyZpx (z : Byte) (s : State) : Result State :=
  storeInstr (.zpx z) State.y s

/-- TAX (R127). -/
def taxEffect : State → State := fun t => t.loadX t.a

/-- TAX imp, opcode AA (R127). -/
def execTax (s : State) : Result State :=
  impliedInstr taxEffect s

/-- TAY (R128). -/
def tayEffect : State → State := fun t => t.loadY t.a

/-- TAY imp, opcode A8 (R128). -/
def execTay (s : State) : Result State :=
  impliedInstr tayEffect s

/-- TXA (R129). -/
def txaEffect : State → State := fun t => t.loadA t.x

/-- TXA imp, opcode 8A (R129). -/
def execTxa (s : State) : Result State :=
  impliedInstr txaEffect s

/-- TYA (R130). -/
def tyaEffect : State → State := fun t => t.loadA t.y

/-- TYA imp, opcode 98 (R130). -/
def execTya (s : State) : Result State :=
  impliedInstr tyaEffect s

/-- TSX (R131). -/
def tsxEffect : State → State := fun t => t.loadX t.sp

/-- TSX imp, opcode BA (R131). -/
def execTsx (s : State) : Result State :=
  impliedInstr tsxEffect s

/-- TXS: no flags (R132). -/
def txsEffect : State → State := fun t => t.setSp t.x

/-- TXS imp, opcode 9A (R132). -/
def execTxs (s : State) : Result State :=
  impliedInstr txsEffect s

end Sys2Proof.Machine
end

