-- ==== Sys2Proof/Machine/Shift.lean ====
section
/-! DEFINITION. Shift and rotate instructions (43_shift_rotate.md): one meaning per opcode byte. -/

namespace Sys2Proof.Machine

/-- ASL zp, opcode 06 (R171). -/
def execAslZp (z : Byte) (s : State) : Result State :=
  modifyInstr (.zp z) (shiftModify aslByte) s

/-- ASL acc, opcode 0A (R171). -/
def execAslAcc (s : State) : Result State :=
  accInstr (shiftModify aslByte) s

/-- ASL abs, opcode 0E (R171). -/
def execAslAbs (w : Addr) (s : State) : Result State :=
  modifyInstr (.abs w) (shiftModify aslByte) s

/-- ASL zpx, opcode 16 (R171). -/
def execAslZpx (z : Byte) (s : State) : Result State :=
  modifyInstr (.zpx z) (shiftModify aslByte) s

/-- ASL abx, opcode 1E (R171). -/
def execAslAbx (w : Addr) (s : State) : Result State :=
  modifyInstr (.abx w) (shiftModify aslByte) s

/-- LSR zp, opcode 46 (R172). -/
def execLsrZp (z : Byte) (s : State) : Result State :=
  modifyInstr (.zp z) (shiftModify lsrByte) s

/-- LSR acc, opcode 4A (R172). -/
def execLsrAcc (s : State) : Result State :=
  accInstr (shiftModify lsrByte) s

/-- LSR abs, opcode 4E (R172). -/
def execLsrAbs (w : Addr) (s : State) : Result State :=
  modifyInstr (.abs w) (shiftModify lsrByte) s

/-- LSR zpx, opcode 56 (R172). -/
def execLsrZpx (z : Byte) (s : State) : Result State :=
  modifyInstr (.zpx z) (shiftModify lsrByte) s

/-- LSR abx, opcode 5E (R172). -/
def execLsrAbx (w : Addr) (s : State) : Result State :=
  modifyInstr (.abx w) (shiftModify lsrByte) s

/-- ROL zp, opcode 26 (R173). -/
def execRolZp (z : Byte) (s : State) : Result State :=
  modifyInstr (.zp z) (shiftModify rolByte) s

/-- ROL acc, opcode 2A (R173). -/
def execRolAcc (s : State) : Result State :=
  accInstr (shiftModify rolByte) s

/-- ROL abs, opcode 2E (R173). -/
def execRolAbs (w : Addr) (s : State) : Result State :=
  modifyInstr (.abs w) (shiftModify rolByte) s

/-- ROL zpx, opcode 36 (R173). -/
def execRolZpx (z : Byte) (s : State) : Result State :=
  modifyInstr (.zpx z) (shiftModify rolByte) s

/-- ROL abx, opcode 3E (R173). -/
def execRolAbx (w : Addr) (s : State) : Result State :=
  modifyInstr (.abx w) (shiftModify rolByte) s

/-- ROR zp, opcode 66 (R174). -/
def execRorZp (z : Byte) (s : State) : Result State :=
  modifyInstr (.zp z) (shiftModify rorByte) s

/-- ROR acc, opcode 6A (R174). -/
def execRorAcc (s : State) : Result State :=
  accInstr (shiftModify rorByte) s

/-- ROR abs, opcode 6E (R174). -/
def execRorAbs (w : Addr) (s : State) : Result State :=
  modifyInstr (.abs w) (shiftModify rorByte) s

/-- ROR zpx, opcode 76 (R174). -/
def execRorZpx (z : Byte) (s : State) : Result State :=
  modifyInstr (.zpx z) (shiftModify rorByte) s

/-- ROR abx, opcode 7E (R174). -/
def execRorAbx (w : Addr) (s : State) : Result State :=
  modifyInstr (.abx w) (shiftModify rorByte) s

end Sys2Proof.Machine
end

