-- ==== Sys2Proof/Machine/Stack.lean ====
section
/-! DEFINITION. Stack push and pull, flag set and clear, NOP (45_stack_flags_nop.md): one meaning per opcode byte. -/

namespace Sys2Proof.Machine

/-- PHA imp, opcode 48 (R201). -/
def execPha (s : State) : Result State :=
  pushInstr s.a 3 s

/-- PHP imp, opcode 08 (R202). -/
def execPhp (s : State) : Result State :=
  pushInstr (pushedStatus s.flags) 3 s

/-- PLA imp, opcode 68 (R203). -/
def execPla (s : State) : Result State :=
  pullInstr State.loadA 4 s

/-- PLP imp, opcode 28 (R204). -/
def execPlp (s : State) : Result State :=
  pullInstr (fun t p => t.setFlags (pulledFlags p)) 4 s

/-- CLC: `C <- 0` (R205). -/
def clcEffect : State → State := fun t => t.setFlags { t.flags with c := false }

/-- CLC imp, opcode 18 (R205). -/
def execClc (s : State) : Result State :=
  impliedInstr clcEffect s

/-- SEC: `C <- 1` (R206). -/
def secEffect : State → State := fun t => t.setFlags { t.flags with c := true }

/-- SEC imp, opcode 38 (R206). -/
def execSec (s : State) : Result State :=
  impliedInstr secEffect s

/-- CLI: `I <- 0` (R207). -/
def cliEffect : State → State := fun t => t.setFlags { t.flags with i := false }

/-- CLI imp, opcode 58 (R207). -/
def execCli (s : State) : Result State :=
  impliedInstr cliEffect s

/-- SEI: `I <- 1` (R208). -/
def seiEffect : State → State := fun t => t.setFlags { t.flags with i := true }

/-- SEI imp, opcode 78 (R208). -/
def execSei (s : State) : Result State :=
  impliedInstr seiEffect s

/-- CLD: `D <- 0` (R209). -/
def cldEffect : State → State := fun t => t.setFlags { t.flags with d := false }

/-- CLD imp, opcode D8 (R209). -/
def execCld (s : State) : Result State :=
  impliedInstr cldEffect s

/-- SED: `D <- 1` (R210). -/
def sedEffect : State → State := fun t => t.setFlags { t.flags with d := true }

/-- SED imp, opcode F8 (R210). -/
def execSed (s : State) : Result State :=
  impliedInstr sedEffect s

/-- CLV: `V <- 0` (R211). -/
def clvEffect : State → State := fun t => t.setFlags { t.flags with v := false }

/-- CLV imp, opcode B8 (R211). -/
def execClv (s : State) : Result State :=
  impliedInstr clvEffect s

/-- NOP computes nothing (R212, R227). -/
def nopImplied : State → State := fun t => t

/-- NOP imp, opcode EA (R212). -/
def execNop (s : State) : Result State :=
  impliedInstr nopImplied s

end Sys2Proof.Machine
end

