-- ==== Sys2Proof/Machine/Undocumented.lean ====
section
/-! DEFINITION. Undocumented opcodes (46_undocumented.md): one meaning per opcode byte. -/

namespace Sys2Proof.Machine

/-- SLO izx, opcode 03 (R221). -/
def execSloIzx (z : Byte) (s : State) : Result State :=
  modifyInstr (.izx z) sloModify s

/-- SLO zp, opcode 07 (R221). -/
def execSloZp (z : Byte) (s : State) : Result State :=
  modifyInstr (.zp z) sloModify s

/-- SLO abs, opcode 0F (R221). -/
def execSloAbs (w : Addr) (s : State) : Result State :=
  modifyInstr (.abs w) sloModify s

/-- SLO izy, opcode 13 (R221). -/
def execSloIzy (z : Byte) (s : State) : Result State :=
  modifyInstr (.izy z) sloModify s

/-- SLO zpx, opcode 17 (R221). -/
def execSloZpx (z : Byte) (s : State) : Result State :=
  modifyInstr (.zpx z) sloModify s

/-- SLO aby, opcode 1B (R221). -/
def execSloAby (w : Addr) (s : State) : Result State :=
  modifyInstr (.aby w) sloModify s

/-- SLO abx, opcode 1F (R221). -/
def execSloAbx (w : Addr) (s : State) : Result State :=
  modifyInstr (.abx w) sloModify s

/-- LAX: `A <- v; X <- v; SetNZ(v)` (R222). -/
def laxEffect : State → Byte → State := fun t v => (t.setA v).loadX v

/-- LAX izx, opcode A3 (R222). -/
def execLaxIzx (z : Byte) (s : State) : Result State :=
  readInstr (.izx z) laxEffect s

/-- LAX zp, opcode A7 (R222). -/
def execLaxZp (z : Byte) (s : State) : Result State :=
  readInstr (.zp z) laxEffect s

/-- LAX abs, opcode AF (R222). -/
def execLaxAbs (w : Addr) (s : State) : Result State :=
  readInstr (.abs w) laxEffect s

/-- LAX izy, opcode B3 (R222). -/
def execLaxIzy (z : Byte) (s : State) : Result State :=
  readInstr (.izy z) laxEffect s

/-- LAX zpy, opcode B7 (R222). -/
def execLaxZpy (z : Byte) (s : State) : Result State :=
  readInstr (.zpy z) laxEffect s

/-- LAX aby, opcode BF (R222). -/
def execLaxAby (w : Addr) (s : State) : Result State :=
  readInstr (.aby w) laxEffect s

/-- ALR imm, opcode 4B (R223). -/
def execAlrImm (v : Byte) (s : State) : Result State :=
  readInstr (.imm v) State.alr s

/-- SBX imm, opcode CB (R224). -/
def execSbxImm (v : Byte) (s : State) : Result State :=
  readInstr (.imm v) State.sbx s

/-- SAX: `A & X` (R225). -/
def saxEffect : State → Byte := fun t => t.a &&& t.x

/-- SAX izx, opcode 83 (R225). -/
def execSaxIzx (z : Byte) (s : State) : Result State :=
  storeInstr (.izx z) saxEffect s

/-- SAX zp, opcode 87 (R225). -/
def execSaxZp (z : Byte) (s : State) : Result State :=
  storeInstr (.zp z) saxEffect s

/-- SAX abs, opcode 8F (R225). -/
def execSaxAbs (w : Addr) (s : State) : Result State :=
  storeInstr (.abs w) saxEffect s

/-- SAX zpy, opcode 97 (R225). -/
def execSaxZpy (z : Byte) (s : State) : Result State :=
  storeInstr (.zpy z) saxEffect s

/-- DCP izx, opcode C3 (R226). -/
def execDcpIzx (z : Byte) (s : State) : Result State :=
  modifyInstr (.izx z) dcpModify s

/-- DCP zp, opcode C7 (R226). -/
def execDcpZp (z : Byte) (s : State) : Result State :=
  modifyInstr (.zp z) dcpModify s

/-- DCP abs, opcode CF (R226). -/
def execDcpAbs (w : Addr) (s : State) : Result State :=
  modifyInstr (.abs w) dcpModify s

/-- DCP izy, opcode D3 (R226). -/
def execDcpIzy (z : Byte) (s : State) : Result State :=
  modifyInstr (.izy z) dcpModify s

/-- DCP zpx, opcode D7 (R226). -/
def execDcpZpx (z : Byte) (s : State) : Result State :=
  modifyInstr (.zpx z) dcpModify s

/-- DCP aby, opcode DB (R226). -/
def execDcpAby (w : Addr) (s : State) : Result State :=
  modifyInstr (.aby w) dcpModify s

/-- DCP abx, opcode DF (R226). -/
def execDcpAbx (w : Addr) (s : State) : Result State :=
  modifyInstr (.abx w) dcpModify s

/-- NOP imp, opcode 1A (R227). -/
def execNopImp1A (s : State) : Result State :=
  impliedInstr nopImplied s

/-- NOP imp, opcode 3A (R227). -/
def execNopImp3A (s : State) : Result State :=
  impliedInstr nopImplied s

/-- NOP imp, opcode 5A (R227). -/
def execNopImp5A (s : State) : Result State :=
  impliedInstr nopImplied s

/-- NOP imp, opcode 7A (R227). -/
def execNopImp7A (s : State) : Result State :=
  impliedInstr nopImplied s

/-- NOP imp, opcode DA (R227). -/
def execNopImpDA (s : State) : Result State :=
  impliedInstr nopImplied s

/-- NOP imp, opcode FA (R227). -/
def execNopImpFA (s : State) : Result State :=
  impliedInstr nopImplied s

/-- An undocumented NOP discards its data byte (R228 to R232). -/
def nopRead : State → Byte → State := fun t _ => t

/-- NOP imm, opcode 80 (R228). -/
def execNopImm80 (v : Byte) (s : State) : Result State :=
  readInstr (.imm v) nopRead s

/-- NOP imm, opcode 82 (R228). -/
def execNopImm82 (v : Byte) (s : State) : Result State :=
  readInstr (.imm v) nopRead s

/-- NOP imm, opcode 89 (R228). -/
def execNopImm89 (v : Byte) (s : State) : Result State :=
  readInstr (.imm v) nopRead s

/-- NOP imm, opcode C2 (R228). -/
def execNopImmC2 (v : Byte) (s : State) : Result State :=
  readInstr (.imm v) nopRead s

/-- NOP imm, opcode E2 (R228). -/
def execNopImmE2 (v : Byte) (s : State) : Result State :=
  readInstr (.imm v) nopRead s

/-- NOP zp, opcode 04 (R229). -/
def execNopZp04 (z : Byte) (s : State) : Result State :=
  readInstr (.zp z) nopRead s

/-- NOP zp, opcode 44 (R229). -/
def execNopZp44 (z : Byte) (s : State) : Result State :=
  readInstr (.zp z) nopRead s

/-- NOP zp, opcode 64 (R229). -/
def execNopZp64 (z : Byte) (s : State) : Result State :=
  readInstr (.zp z) nopRead s

/-- NOP zpx, opcode 14 (R230). -/
def execNopZpx14 (z : Byte) (s : State) : Result State :=
  readInstr (.zpx z) nopRead s

/-- NOP zpx, opcode 34 (R230). -/
def execNopZpx34 (z : Byte) (s : State) : Result State :=
  readInstr (.zpx z) nopRead s

/-- NOP zpx, opcode 54 (R230). -/
def execNopZpx54 (z : Byte) (s : State) : Result State :=
  readInstr (.zpx z) nopRead s

/-- NOP zpx, opcode 74 (R230). -/
def execNopZpx74 (z : Byte) (s : State) : Result State :=
  readInstr (.zpx z) nopRead s

/-- NOP zpx, opcode D4 (R230). -/
def execNopZpxD4 (z : Byte) (s : State) : Result State :=
  readInstr (.zpx z) nopRead s

/-- NOP zpx, opcode F4 (R230). -/
def execNopZpxF4 (z : Byte) (s : State) : Result State :=
  readInstr (.zpx z) nopRead s

/-- NOP abs, opcode 0C (R231). -/
def execNopAbs0C (w : Addr) (s : State) : Result State :=
  readInstr (.abs w) nopRead s

/-- NOP abx, opcode 1C (R232). -/
def execNopAbx1C (w : Addr) (s : State) : Result State :=
  readInstr (.abx w) nopRead s

/-- NOP abx, opcode 3C (R232). -/
def execNopAbx3C (w : Addr) (s : State) : Result State :=
  readInstr (.abx w) nopRead s

/-- NOP abx, opcode 5C (R232). -/
def execNopAbx5C (w : Addr) (s : State) : Result State :=
  readInstr (.abx w) nopRead s

/-- NOP abx, opcode 7C (R232). -/
def execNopAbx7C (w : Addr) (s : State) : Result State :=
  readInstr (.abx w) nopRead s

/-- NOP abx, opcode DC (R232). -/
def execNopAbxDC (w : Addr) (s : State) : Result State :=
  readInstr (.abx w) nopRead s

/-- NOP abx, opcode FC (R232). -/
def execNopAbxFC (w : Addr) (s : State) : Result State :=
  readInstr (.abx w) nopRead s

end Sys2Proof.Machine
end

