-- ==== Sys2Proof/Machine/Fetch.lean ====
section
/-! DEFINITION. The instruction boundary, the fetch of an instruction's bytes (R105), and placing an instruction where the fetch finds it. -/

namespace Sys2Proof.Machine

/-- R358: the run ends at an instruction boundary by the quit signal or at `STOP_CLOCK`. -/
def State.ended (s : State) : Bool :=
  s.quit || (match s.params.stopClock with
    | some c => decide (c ≤ s.clock)
    | none => false)

/-- What is observed between two instructions: a fault is sticky (R32), and a run may end (R107, R358). -/
def boundary (s : State) : Result State :=
  match s.fault with
  | some f => .fault f
  | none => if s.ended then .refused .runEnded else .next s

/-- Read `n` bytes from `addr` on, in ascending order (R57), wrapping modulo 65536. -/
def readBytes : Nat → Addr → State → Result (List Byte × State)
  | 0, _, s => .next ([], s)
  | n + 1, addr, s =>
    andThen (busRead addr s) fun b =>
      andThen (readBytes n (addr + 1) b.2) fun r => .next (b.1 :: r.1, r.2)

/-- The slot of an opcode byte under the launch's `POPULATED` (R76: "narrowing it only turns instructions into faults"). -/
def State.slotOf (s : State) (op : Byte) : Option Slot := if op ∈ s.params.populated then Sys2Proof.slotOf op else none

/-- The fetch (R105): the opcode byte at `PC`, then the operand bytes its slot has, all at the Clock of the start.
A byte that is not in the launch's `POPULATED`, or for which the spec has no instruction, is fatal (R75, R80, R321). The state answered still has `PC` at the opcode byte (R106). -/
def fetch (s : State) : Result (Instr × State) :=
  andThen (busRead s.pc s) fun op =>
    match s.slotOf op.1 with
    | none => .fault (.unimplementedOpcode op.1 s.pc)
    | some slot =>
      andThen (readBytes slot.size (s.pc + 1) op.2) fun operands =>
        match decode (op.1 :: operands.1) with
        | .ok (i, _) => .next (i, operands.2)
        | .error _ => .fault (.unimplementedOpcode op.1 s.pc)

/-- The run status after a step that answered `o` from `s` (R32): a fault is recorded and stays. -/
def recordOutcome (s : State) (o : Result State) : State :=
  match o with
  | .next t => t
  | .fault f => { s with fault := some f }
  | .refused _ => s

/-- Place bytes in storage from `addr` on, ROM included. -/
def pokeBytes : List Byte → Addr → State → State
  | [], _, s => s
  | b :: bs, addr, s => pokeBytes bs (addr + 1) (s.poke addr b)

/-- The three bytes from `addr` on are storage. -/
def holdsInstruction (addr : Addr) : Bool :=
  (storageKey addr).isSome && (storageKey (addr + 1)).isSome && (storageKey (addr + 2)).isSome

/-- Where a placed instruction goes: at `PC` if it points into RAM or the cartridge, else at 0xF000, the
conventional start of the cartridge window (R357), since a device register holds no instruction bytes (log 11). -/
def placeFor (pc : Addr) : Addr := if holdsInstruction pc then pc else 0xF000

/-- A state whose next step reaches its fetch with `PC` at `pc`, from the single-bank cartridge or RAM, with the
default opcode set (log 11). -/
def State.readyAt (s : State) (pc : Addr) : State :=
  { s with
    pc := pc, fault := none, quit := false
    params := { s.params with stopClock := none, cart := .singleBank, populated := populatedBytes } }

end Sys2Proof.Machine
end

