-- ==== Sys2Proof/Machine/Step.lean ====
section
/-! DEFINITION. One step of the core (R105), and the host's placing of an instruction. -/

namespace Sys2Proof.Machine

/-- One step of the CPU, the only agent (R60, R105): the boundary, the fetch, the instruction. -/
def step (s : State) : Host.Outcome State Fault Refusal :=
  andThen (boundary s) fun s0 => andThen (fetch s0) fun f => exec f.1 f.2

/-- `s` with the instruction whose bits are `w` stored where `step` fetches next (log 11). -/
def State.withFetchWord (s : State) (nbits w : Nat) : State :=
  pokeBytes (bytesOfTableWord nbits w) (placeFor s.pc) (s.readyAt (placeFor s.pc))

end Sys2Proof.Machine
end

