-- ==== Sys2Proof/Machine/View.lean ====
section
/-! DEFINITION. How an instruction reads: its mnemonic and its operand, and the cycle totals of R108. The statements
speak of instructions through these; the machine does not use them. -/

namespace Sys2Proof

/-- The 62 mnemonics of spec/opcode_table.json. -/
inductive Mnemonic where
  | adc | alr | and | asl | bcc | bcs | beq | bit | bmi | bne | bpl | brk
  | bvc | bvs | clc | cld | cli | clv | cmp | cpx | cpy | dcp | dec | dex
  | dey | eor | inc | inx | iny | jmp | jsr | lax | lda | ldx | ldy | lsr
  | nop | ora | pha | php | pla | plp | rol | ror | rti | rts | sax | sbc
  | sbx | sec | sed | sei | slo | sta | stx | sty | tax | tay | tsx | txa
  | txs | tya
  deriving DecidableEq, Repr

/-- The mnemonic of an instruction. -/
def Instr.mnemonic : Instr → Mnemonic
  | .adcIzx _ | .adcZp _ | .adcImm _ | .adcAbs _ | .adcIzy _ | .adcZpx _ | .adcAby _ | .adcAbx _ => .adc
  | .alrImm _ => .alr
  | .andIzx _ | .andZp _ | .andImm _ | .andAbs _ | .andIzy _ | .andZpx _ | .andAby _ | .andAbx _ => .and
  | .aslZp _ | .aslAcc | .aslAbs _ | .aslZpx _ | .aslAbx _ => .asl
  | .bccRel _ => .bcc
  | .bcsRel _ => .bcs
  | .beqRel _ => .beq
  | .bitZp _ | .bitAbs _ => .bit
  | .bmiRel _ => .bmi
  | .bneRel _ => .bne
  | .bplRel _ => .bpl
  | .brk => .brk
  | .bvcRel _ => .bvc
  | .bvsRel _ => .bvs
  | .clc => .clc
  | .cld => .cld
  | .cli => .cli
  | .clv => .clv
  | .cmpIzx _ | .cmpZp _ | .cmpImm _ | .cmpAbs _ | .cmpIzy _ | .cmpZpx _ | .cmpAby _ | .cmpAbx _ => .cmp
  | .cpxImm _ | .cpxZp _ | .cpxAbs _ => .cpx
  | .cpyImm _ | .cpyZp _ | .cpyAbs _ => .cpy
  | .dcpIzx _ | .dcpZp _ | .dcpAbs _ | .dcpIzy _ | .dcpZpx _ | .dcpAby _ | .dcpAbx _ => .dcp
  | .decZp _ | .decAbs _ | .decZpx _ | .decAbx _ => .dec
  | .dex => .dex
  | .dey => .dey
  | .eorIzx _ | .eorZp _ | .eorImm _ | .eorAbs _ | .eorIzy _ | .eorZpx _ | .eorAby _ | .eorAbx _ => .eor
  | .incZp _ | .incAbs _ | .incZpx _ | .incAbx _ => .inc
  | .inx => .inx
  | .iny => .iny
  | .jmpAbs _ | .jmpInd _ => .jmp
  | .jsrAbs _ => .jsr
  | .laxIzx _ | .laxZp _ | .laxAbs _ | .laxIzy _ | .laxZpy _ | .laxAby _ => .lax
  | .ldaIzx _ | .ldaZp _ | .ldaImm _ | .ldaAbs _ | .ldaIzy _ | .ldaZpx _ | .ldaAby _ | .ldaAbx _ => .lda
  | .ldxImm _ | .ldxZp _ | .ldxAbs _ | .ldxZpy _ | .ldxAby _ => .ldx
  | .ldyImm _ | .ldyZp _ | .ldyAbs _ | .ldyZpx _ | .ldyAbx _ => .ldy
  | .lsrZp _ | .lsrAcc | .lsrAbs _ | .lsrZpx _ | .lsrAbx _ => .lsr
  | .nopZp04 _ | .nopAbs0C _ | .nopZpx14 _ | .nopImp1A | .nopAbx1C _ | .nopZpx34 _ | .nopImp3A | .nopAbx3C _
    | .nopZp44 _ | .nopZpx54 _ | .nopImp5A | .nopAbx5C _ | .nopZp64 _ | .nopZpx74 _ | .nopImp7A | .nopAbx7C _
    | .nopImm80 _ | .nopImm82 _ | .nopImm89 _ | .nopImmC2 _ | .nopZpxD4 _ | .nopImpDA | .nopAbxDC _
    | .nopImmE2 _ | .nop | .nopZpxF4 _ | .nopImpFA | .nopAbxFC _ => .nop
  | .oraIzx _ | .oraZp _ | .oraImm _ | .oraAbs _ | .oraIzy _ | .oraZpx _ | .oraAby _ | .oraAbx _ => .ora
  | .pha => .pha
  | .php => .php
  | .pla => .pla
  | .plp => .plp
  | .rolZp _ | .rolAcc | .rolAbs _ | .rolZpx _ | .rolAbx _ => .rol
  | .rorZp _ | .rorAcc | .rorAbs _ | .rorZpx _ | .rorAbx _ => .ror
  | .rti => .rti
  | .rts => .rts
  | .saxIzx _ | .saxZp _ | .saxAbs _ | .saxZpy _ => .sax
  | .sbcIzx _ | .sbcZp _ | .sbcImm _ | .sbcAbs _ | .sbcIzy _ | .sbcZpx _ | .sbcAby _ | .sbcAbx _ => .sbc
  | .sbxImm _ => .sbx
  | .sec => .sec
  | .sed => .sed
  | .sei => .sei
  | .sloIzx _ | .sloZp _ | .sloAbs _ | .sloIzy _ | .sloZpx _ | .sloAby _ | .sloAbx _ => .slo
  | .staIzx _ | .staZp _ | .staAbs _ | .staIzy _ | .staZpx _ | .staAby _ | .staAbx _ => .sta
  | .stxZp _ | .stxAbs _ | .stxZpy _ => .stx
  | .styZp _ | .styAbs _ | .styZpx _ => .sty
  | .tax => .tax
  | .tay => .tay
  | .tsx => .tsx
  | .txa => .txa
  | .txs => .txs
  | .tya => .tya

/-- The operand of an instruction: its format (R71) with its operand bytes. -/
def Instr.operand : Instr → Machine.Operand
  | .brk | .php | .clc | .nopImp1A | .plp | .sec | .nopImp3A | .rti | .pha | .cli | .nopImp5A | .rts | .pla
    | .sei | .nopImp7A | .dey | .txa | .tya | .txs | .tay | .tax | .clv | .tsx | .iny | .dex | .cld
    | .nopImpDA | .inx | .nop | .sed | .nopImpFA => .imp
  | .aslAcc | .rolAcc | .lsrAcc | .rorAcc => .acc
  | .oraImm v | .andImm v | .eorImm v | .alrImm v | .adcImm v | .nopImm80 v | .nopImm82 v | .nopImm89 v
    | .ldyImm v | .ldxImm v | .ldaImm v | .cpyImm v | .nopImmC2 v | .cmpImm v | .sbxImm v | .cpxImm v
    | .nopImmE2 v | .sbcImm v => .imm v
  | .nopZp04 z | .oraZp z | .aslZp z | .sloZp z | .bitZp z | .andZp z | .rolZp z | .nopZp44 z | .eorZp z
    | .lsrZp z | .nopZp64 z | .adcZp z | .rorZp z | .styZp z | .staZp z | .stxZp z | .saxZp z | .ldyZp z
    | .ldaZp z | .ldxZp z | .laxZp z | .cpyZp z | .cmpZp z | .decZp z | .dcpZp z | .cpxZp z | .sbcZp z
    | .incZp z => .zp z
  | .nopZpx14 z | .oraZpx z | .aslZpx z | .sloZpx z | .nopZpx34 z | .andZpx z | .rolZpx z | .nopZpx54 z
    | .eorZpx z | .lsrZpx z | .nopZpx74 z | .adcZpx z | .rorZpx z | .styZpx z | .staZpx z | .ldyZpx z
    | .ldaZpx z | .nopZpxD4 z | .cmpZpx z | .decZpx z | .dcpZpx z | .nopZpxF4 z | .sbcZpx z | .incZpx z => .zpx z
  | .stxZpy z | .saxZpy z | .ldxZpy z | .laxZpy z => .zpy z
  | .bplRel d | .bmiRel d | .bvcRel d | .bvsRel d | .bccRel d | .bcsRel d | .bneRel d | .beqRel d => .rel d
  | .nopAbs0C w | .oraAbs w | .aslAbs w | .sloAbs w | .jsrAbs w | .bitAbs w | .andAbs w | .rolAbs w
    | .jmpAbs w | .eorAbs w | .lsrAbs w | .adcAbs w | .rorAbs w | .styAbs w | .staAbs w | .stxAbs w
    | .saxAbs w | .ldyAbs w | .ldaAbs w | .ldxAbs w | .laxAbs w | .cpyAbs w | .cmpAbs w | .decAbs w
    | .dcpAbs w | .cpxAbs w | .sbcAbs w | .incAbs w => .abs w
  | .nopAbx1C w | .oraAbx w | .aslAbx w | .sloAbx w | .nopAbx3C w | .andAbx w | .rolAbx w | .nopAbx5C w
    | .eorAbx w | .lsrAbx w | .nopAbx7C w | .adcAbx w | .rorAbx w | .staAbx w | .ldyAbx w | .ldaAbx w
    | .nopAbxDC w | .cmpAbx w | .decAbx w | .dcpAbx w | .nopAbxFC w | .sbcAbx w | .incAbx w => .abx w
  | .oraAby w | .sloAby w | .andAby w | .eorAby w | .adcAby w | .staAby w | .ldaAby w | .ldxAby w | .laxAby w
    | .cmpAby w | .dcpAby w | .sbcAby w => .aby w
  | .jmpInd w => .ind w
  | .oraIzx z | .sloIzx z | .andIzx z | .eorIzx z | .adcIzx z | .staIzx z | .saxIzx z | .ldaIzx z | .laxIzx z
    | .cmpIzx z | .dcpIzx z | .sbcIzx z => .izx z
  | .oraIzy z | .sloIzy z | .andIzy z | .eorIzy z | .adcIzy z | .staIzy z | .ldaIzy z | .laxIzy z | .cmpIzy z
    | .dcpIzy z | .sbcIzy z => .izy z

namespace Machine

/-- R108, read-type instructions: the total cycles, with the page penalty in modes `abx`, `aby` and `izy`. Formats a
read-type instruction does not have count 0. -/
def readCycles (o : Operand) (crossed : Bool) : Nat :=
  match o with
  | .imm _ => 2
  | .zp _ => 3
  | .zpx _ | .zpy _ | .abs _ => 4
  | .abx _ | .aby _ => if crossed then 5 else 4
  | .izx _ => 6
  | .izy _ => if crossed then 6 else 5
  | .imp | .acc | .rel _ | .ind _ => 0

/-- R108, store-type instructions: the total cycles. Formats a store-type instruction does not have count 0. -/
def storeCycles (o : Operand) : Nat :=
  match o with
  | .zp _ => 3
  | .zpx _ | .zpy _ | .abs _ => 4
  | .abx _ | .aby _ => 5
  | .izx _ | .izy _ => 6
  | .imm _ | .imp | .acc | .rel _ | .ind _ => 0

/-- R108, RMW-type instructions with a memory operand: the total cycles. Formats they do not have count 0. -/
def modifyCycles (o : Operand) : Nat :=
  match o with
  | .zp _ => 5
  | .zpx _ | .zpy _ | .abs _ => 6
  | .abx _ | .aby _ => 7
  | .izx _ | .izy _ => 8
  | .imm _ | .imp | .acc | .rel _ | .ind _ => 0

end Machine

end Sys2Proof
end

