-- ==== Sys2Proof/Safety.lean ====
section
/-! DEFINITION. What counts as a good state and a safe step, in the terms the statements use. -/

namespace Sys2Proof.Machine

/-- R303: positions are in range. -/
def Tia.PositionsOk (t : Tia) : Prop :=
  t.resp.zero < frameWidth ∧ t.resp.one < frameWidth ∧ t.resm.zero < frameWidth ∧ t.resm.one < frameWidth ∧
    t.resbl < horizontalTicks

/-- R282: the scan bookkeeping at an instruction boundary with the given Clock. -/
def Tia.BeamOk (t : Tia) (clock : Nat) : Prop :=
  t.screenStart ≤ t.lastUpdate ∧ t.lastUpdate ≤ clock ∧ t.screenStart % horizontalTicks = 0

/-- R262, R263: only bits 7 and 6 of a latch byte are ever set, and only bit 7 of `cxblpf`. -/
def Latches.Ok (c : Latches) : Prop :=
  c.cxmp.zero &&& 0x3F = 0 ∧ c.cxmp.one &&& 0x3F = 0 ∧ c.cxpfb.zero &&& 0x3F = 0 ∧ c.cxpfb.one &&& 0x3F = 0 ∧
    c.cxmfb.zero &&& 0x3F = 0 ∧ c.cxmfb.one &&& 0x3F = 0 ∧ c.cxblpf &&& 0x7F = 0 ∧ c.cxppmm &&& 0x3F = 0

/-- R260: no missile is locked, since the write that would lock one is refused. -/
def Tia.Unlocked (t : Tia) : Prop := bitOf t.resmp.zero 1 = false ∧ bitOf t.resmp.one 1 = false

/-- The TIA part of the invariant. -/
structure Tia.Inv (p : Params) (t : Tia) : Prop where
  positions : t.PositionsOk
  latches : t.latch.Ok
  unlocked : t.Unlocked
  display : Display.wf p.frameHeight t.display = true

/-- The invariant of the core: memory and Display in canonical form, positions in range, the scan bookkeeping of
R282, latch bytes with their unused bits 0, no missile locked. -/
structure State.Inv (s : State) : Prop where
  memory : Memory.wf s.mem = true
  tia : s.tia.Inv s.params
  beam : s.tia.BeamOk s.clock

/-- A step that raises no fatal condition (R320: a faulted core satisfies no claim). -/
def State.StepSafe (s : State) : Prop := ∀ f, step s ≠ .fault f

/-- A state at which an instruction can begin: no fault recorded (R32) and the run not ended (R358). -/
def State.Running (s : State) : Prop := s.fault = none ∧ s.ended = false

/-- R245, R260: the writes the spec refuses: RSYNC, and RESMP0 or RESMP1 with bit 1 set, at any image of their address. -/
def refusesWrite (addr : Addr) (v : Byte) : Bool :=
  match route addr with
  | some (.tia reg _) => reg == 0x03 || ((reg == 0x28 || reg == 0x29) && bitOf v 1)
  | _ => false

/-- R48, R322: whether an access at `addr` goes to a collaborator that may refuse it. The defaults never do (R51, R53). -/
def State.mayRefuse (s : State) (addr : Addr) : Bool :=
  match route addr with
  | some (.cart _) => s.params.cart != .singleBank
  | some .riotIo => s.params.riotIO != .oracle
  | _ => false

/-- The launch has the default cartridge (R51) and the default RIOT I/O collaborator (R53), which refuse no access. -/
def State.DefaultBus (s : State) : Prop := s.params.cart = .singleBank ∧ s.params.riotIO = .oracle

/-- R322: an outcome is `InvalidAddress` for an access that a collaborator may refuse. -/
def State.AccessRefused {α : Type} (s : State) (r : Result α) : Prop :=
  ∃ a, r = .fault (.invalidAddress a) ∧ s.mayRefuse a = true

/-- What fetching an operand may change: the Clock, and what bus reads change (R46). -/
def State.ReadFrame (s t : State) : Prop :=
  t = { s with clock := t.clock, cart := t.cart, tia := t.tia, draws := t.draws, events := t.events }

/-- `PC` after an instruction that goes on to the next one: `(pc + 1 + size) & 0xFFFF` (R106). -/
def nextPc (s : State) (o : Operand) : Addr := BitVec.ofNat 16 (s.pc.toNat + 1 + o.size)

/-- R105 steps 1 to 3, R108, R112: in state `s` a read-type instruction with operand `o` has the data byte `v`, and
is then in state `t`. An immediate byte is the operand itself. Any other is a bus read at the effective address, made
2 cycles before the end of the instruction; `t` is the state at the end of the instruction's cost. -/
def State.ReadsOperand (s : State) (o : Operand) (v : Byte) (t : State) : Prop :=
  match o with
  | .imm w => v = w ∧ t = { s with clock := s.clockAfter 2 }
  | o => ∃ e u w, effective o s = .next (e, u) ∧
      busRead e.addr { u with clock := s.clockAfter (readCycles o e.crossed - 2) } = .next (v, w) ∧
      t = { w with clock := s.clockAfter (readCycles o e.crossed) }

/-- R105, R108, R112: in state `s` a store-type instruction with operand `o` writes at `a` in state `t`, at the Clock
of its end. -/
def State.StoresTo (s : State) (o : Operand) (a : Addr) (t : State) : Prop :=
  ∃ e u, effective o s = .next (e, u) ∧ a = e.addr ∧ t = { u with clock := s.clockAfter (storeCycles o) }

/-- R105, R108, R112: in state `s` an RMW-type instruction with the memory operand `o` reads the byte `v` at `a`, 4
cycles before its end, and makes its write in state `t`, at the Clock of its end. -/
def State.ReadsTarget (s : State) (o : Operand) (a : Addr) (v : Byte) (t : State) : Prop :=
  ∃ e u w, effective o s = .next (e, u) ∧ a = e.addr ∧
    busRead a { u with clock := s.clockAfter (modifyCycles o - 4) } = .next (v, w) ∧
    t = { w with clock := s.clockAfter (modifyCycles o) }

/-- R77 to R79, row 0x: each opcode byte with its instruction, of operand byte `b` or operand word `w`. -/
def opcodeRow0 (b : Byte) (w : Addr) : List (Byte × Instr) :=
  [(0x00, .brk), (0x01, .oraIzx b), (0x03, .sloIzx b), (0x04, .nopZp04 b), (0x05, .oraZp b),
   (0x06, .aslZp b), (0x07, .sloZp b), (0x08, .php), (0x09, .oraImm b), (0x0A, .aslAcc),
   (0x0C, .nopAbs0C w), (0x0D, .oraAbs w), (0x0E, .aslAbs w), (0x0F, .sloAbs w)]

/-- R77 to R79, row 1x: each opcode byte with its instruction, of operand byte `b` or operand word `w`. -/
def opcodeRow1 (b : Byte) (w : Addr) : List (Byte × Instr) :=
  [(0x10, .bplRel b), (0x11, .oraIzy b), (0x13, .sloIzy b), (0x14, .nopZpx14 b), (0x15, .oraZpx b),
   (0x16, .aslZpx b), (0x17, .sloZpx b), (0x18, .clc), (0x19, .oraAby w), (0x1A, .nopImp1A),
   (0x1B, .sloAby w), (0x1C, .nopAbx1C w), (0x1D, .oraAbx w), (0x1E, .aslAbx w), (0x1F, .sloAbx w)]

/-- R77 to R79, row 2x: each opcode byte with its instruction, of operand byte `b` or operand word `w`. -/
def opcodeRow2 (b : Byte) (w : Addr) : List (Byte × Instr) :=
  [(0x20, .jsrAbs w), (0x21, .andIzx b), (0x24, .bitZp b), (0x25, .andZp b), (0x26, .rolZp b),
   (0x28, .plp), (0x29, .andImm b), (0x2A, .rolAcc), (0x2C, .bitAbs w), (0x2D, .andAbs w), (0x2E, .rolAbs w)]

/-- R77 to R79, row 3x: each opcode byte with its instruction, of operand byte `b` or operand word `w`. -/
def opcodeRow3 (b : Byte) (w : Addr) : List (Byte × Instr) :=
  [(0x30, .bmiRel b), (0x31, .andIzy b), (0x34, .nopZpx34 b), (0x35, .andZpx b), (0x36, .rolZpx b),
   (0x38, .sec), (0x39, .andAby w), (0x3A, .nopImp3A), (0x3C, .nopAbx3C w), (0x3D, .andAbx w),
   (0x3E, .rolAbx w)]

/-- R77 to R79, row 4x: each opcode byte with its instruction, of operand byte `b` or operand word `w`. -/
def opcodeRow4 (b : Byte) (w : Addr) : List (Byte × Instr) :=
  [(0x40, .rti), (0x41, .eorIzx b), (0x44, .nopZp44 b), (0x45, .eorZp b), (0x46, .lsrZp b), (0x48, .pha),
   (0x49, .eorImm b), (0x4A, .lsrAcc), (0x4B, .alrImm b), (0x4C, .jmpAbs w), (0x4D, .eorAbs w),
   (0x4E, .lsrAbs w)]

/-- R77 to R79, row 5x: each opcode byte with its instruction, of operand byte `b` or operand word `w`. -/
def opcodeRow5 (b : Byte) (w : Addr) : List (Byte × Instr) :=
  [(0x50, .bvcRel b), (0x51, .eorIzy b), (0x54, .nopZpx54 b), (0x55, .eorZpx b), (0x56, .lsrZpx b),
   (0x58, .cli), (0x59, .eorAby w), (0x5A, .nopImp5A), (0x5C, .nopAbx5C w), (0x5D, .eorAbx w),
   (0x5E, .lsrAbx w)]

/-- R77 to R79, row 6x: each opcode byte with its instruction, of operand byte `b` or operand word `w`. -/
def opcodeRow6 (b : Byte) (w : Addr) : List (Byte × Instr) :=
  [(0x60, .rts), (0x61, .adcIzx b), (0x64, .nopZp64 b), (0x65, .adcZp b), (0x66, .rorZp b), (0x68, .pla),
   (0x69, .adcImm b), (0x6A, .rorAcc), (0x6C, .jmpInd w), (0x6D, .adcAbs w), (0x6E, .rorAbs w)]

/-- R77 to R79, row 7x: each opcode byte with its instruction, of operand byte `b` or operand word `w`. -/
def opcodeRow7 (b : Byte) (w : Addr) : List (Byte × Instr) :=
  [(0x70, .bvsRel b), (0x71, .adcIzy b), (0x74, .nopZpx74 b), (0x75, .adcZpx b), (0x76, .rorZpx b),
   (0x78, .sei), (0x79, .adcAby w), (0x7A, .nopImp7A), (0x7C, .nopAbx7C w), (0x7D, .adcAbx w),
   (0x7E, .rorAbx w)]

/-- R77 to R79, row 8x: each opcode byte with its instruction, of operand byte `b` or operand word `w`. -/
def opcodeRow8 (b : Byte) (w : Addr) : List (Byte × Instr) :=
  [(0x80, .nopImm80 b), (0x81, .staIzx b), (0x82, .nopImm82 b), (0x83, .saxIzx b), (0x84, .styZp b),
   (0x85, .staZp b), (0x86, .stxZp b), (0x87, .saxZp b), (0x88, .dey), (0x89, .nopImm89 b), (0x8A, .txa),
   (0x8C, .styAbs w), (0x8D, .staAbs w), (0x8E, .stxAbs w), (0x8F, .saxAbs w)]

/-- R77 to R79, row 9x: each opcode byte with its instruction, of operand byte `b` or operand word `w`. -/
def opcodeRow9 (b : Byte) (w : Addr) : List (Byte × Instr) :=
  [(0x90, .bccRel b), (0x91, .staIzy b), (0x94, .styZpx b), (0x95, .staZpx b), (0x96, .stxZpy b),
   (0x97, .saxZpy b), (0x98, .tya), (0x99, .staAby w), (0x9A, .txs), (0x9D, .staAbx w)]

/-- R77 to R79, row Ax: each opcode byte with its instruction, of operand byte `b` or operand word `w`. -/
def opcodeRowA (b : Byte) (w : Addr) : List (Byte × Instr) :=
  [(0xA0, .ldyImm b), (0xA1, .ldaIzx b), (0xA2, .ldxImm b), (0xA3, .laxIzx b), (0xA4, .ldyZp b),
   (0xA5, .ldaZp b), (0xA6, .ldxZp b), (0xA7, .laxZp b), (0xA8, .tay), (0xA9, .ldaImm b), (0xAA, .tax),
   (0xAC, .ldyAbs w), (0xAD, .ldaAbs w), (0xAE, .ldxAbs w), (0xAF, .laxAbs w)]

/-- R77 to R79, row Bx: each opcode byte with its instruction, of operand byte `b` or operand word `w`. -/
def opcodeRowB (b : Byte) (w : Addr) : List (Byte × Instr) :=
  [(0xB0, .bcsRel b), (0xB1, .ldaIzy b), (0xB3, .laxIzy b), (0xB4, .ldyZpx b), (0xB5, .ldaZpx b),
   (0xB6, .ldxZpy b), (0xB7, .laxZpy b), (0xB8, .clv), (0xB9, .ldaAby w), (0xBA, .tsx), (0xBC, .ldyAbx w),
   (0xBD, .ldaAbx w), (0xBE, .ldxAby w), (0xBF, .laxAby w)]

/-- R77 to R79, row Cx: each opcode byte with its instruction, of operand byte `b` or operand word `w`. -/
def opcodeRowC (b : Byte) (w : Addr) : List (Byte × Instr) :=
  [(0xC0, .cpyImm b), (0xC1, .cmpIzx b), (0xC2, .nopImmC2 b), (0xC3, .dcpIzx b), (0xC4, .cpyZp b),
   (0xC5, .cmpZp b), (0xC6, .decZp b), (0xC7, .dcpZp b), (0xC8, .iny), (0xC9, .cmpImm b), (0xCA, .dex),
   (0xCB, .sbxImm b), (0xCC, .cpyAbs w), (0xCD, .cmpAbs w), (0xCE, .decAbs w), (0xCF, .dcpAbs w)]

/-- R77 to R79, row Dx: each opcode byte with its instruction, of operand byte `b` or operand word `w`. -/
def opcodeRowD (b : Byte) (w : Addr) : List (Byte × Instr) :=
  [(0xD0, .bneRel b), (0xD1, .cmpIzy b), (0xD3, .dcpIzy b), (0xD4, .nopZpxD4 b), (0xD5, .cmpZpx b),
   (0xD6, .decZpx b), (0xD7, .dcpZpx b), (0xD8, .cld), (0xD9, .cmpAby w), (0xDA, .nopImpDA),
   (0xDB, .dcpAby w), (0xDC, .nopAbxDC w), (0xDD, .cmpAbx w), (0xDE, .decAbx w), (0xDF, .dcpAbx w)]

/-- R77 to R79, row Ex: each opcode byte with its instruction, of operand byte `b` or operand word `w`. -/
def opcodeRowE (b : Byte) (w : Addr) : List (Byte × Instr) :=
  [(0xE0, .cpxImm b), (0xE1, .sbcIzx b), (0xE2, .nopImmE2 b), (0xE4, .cpxZp b), (0xE5, .sbcZp b),
   (0xE6, .incZp b), (0xE8, .inx), (0xE9, .sbcImm b), (0xEA, .nop), (0xEC, .cpxAbs w), (0xED, .sbcAbs w),
   (0xEE, .incAbs w)]

/-- R77 to R79, row Fx: each opcode byte with its instruction, of operand byte `b` or operand word `w`. -/
def opcodeRowF (b : Byte) (w : Addr) : List (Byte × Instr) :=
  [(0xF0, .beqRel b), (0xF1, .sbcIzy b), (0xF4, .nopZpxF4 b), (0xF5, .sbcZpx b), (0xF6, .incZpx b),
   (0xF8, .sed), (0xF9, .sbcAby w), (0xFA, .nopImpFA), (0xFC, .nopAbxFC w), (0xFD, .sbcAbx w),
   (0xFE, .incAbx w)]

/-- R77 to R79: the instruction of each of the 204 opcode bytes followed by the bytes `b1` and `b2`, the low byte of an
operand word first. -/
def opcodeMatrix (b1 b2 : Byte) : List (Byte × Instr) :=
  List.flatten [opcodeRow0 b1 (b2 ++ b1), opcodeRow1 b1 (b2 ++ b1), opcodeRow2 b1 (b2 ++ b1), opcodeRow3 b1 (b2 ++ b1),
    opcodeRow4 b1 (b2 ++ b1), opcodeRow5 b1 (b2 ++ b1), opcodeRow6 b1 (b2 ++ b1), opcodeRow7 b1 (b2 ++ b1),
    opcodeRow8 b1 (b2 ++ b1), opcodeRow9 b1 (b2 ++ b1), opcodeRowA b1 (b2 ++ b1), opcodeRowB b1 (b2 ++ b1),
    opcodeRowC b1 (b2 ++ b1), opcodeRowD b1 (b2 ++ b1), opcodeRowE b1 (b2 ++ b1), opcodeRowF b1 (b2 ++ b1)]

/-- R19: the flags with `N` bit 7 of `v` and `Z` set iff `v` is 0. -/
def nzFlags (f : Flags) (v : Byte) : Flags := { f with n := decide (128 ≤ v.toNat), z := decide (v.toNat = 0) }

/-- R149: the flags after comparing `reg` with `v`. -/
def compareFlags (f : Flags) (reg v : Byte) : Flags :=
  { f with n := decide (128 ≤ (reg - v).toNat), z := decide (reg = v), c := decide (v.toNat ≤ reg.toNat) }

/-- R18: `N::V::1::1::D::I::Z::C` as a number. -/
def statusByte (f : Flags) : Byte :=
  BitVec.ofNat 8 (128 * f.n.toNat + 64 * f.v.toNat + 48 + 8 * f.d.toNat + 4 * f.i.toNat + 2 * f.z.toNat + f.c.toNat)

/-- The storage bytes after a byte is written at the stack byte `sp` addresses, `RAM[sp & 0x7F]` (R15, R43). -/
def stackWritten (m : Memory) (sp v : Byte) : Memory := Memory.write m (ramKey (sp.toNat % 0x80)) v

/-- The stack byte `sp` addresses, `RAM[sp & 0x7F]` (R15, R43). -/
def stackByte (m : Memory) (sp : Byte) : Byte := Memory.read m (ramKey (sp.toNat % 0x80))

/-- R152, R153, R171 to R174: the byte INC, DEC and the shifts make of `v` with the old carry `c`. -/
def modifiedByte (m : Mnemonic) (v : Byte) (c : Bool) : Byte :=
  match m with
  | .inc => BitVec.ofNat 8 (v.toNat + 1)
  | .dec => BitVec.ofNat 8 (v.toNat + 255)
  | .asl => BitVec.ofNat 8 (2 * v.toNat)
  | .lsr => BitVec.ofNat 8 (v.toNat / 2)
  | .rol => BitVec.ofNat 8 (2 * v.toNat + c.toNat)
  | .ror => BitVec.ofNat 8 (v.toNat / 2 + 128 * c.toNat)
  | _ => v

/-- R152, R153, R171 to R174: the carry after them: the bit shifted out, or the old one. -/
def modifiedCarry (m : Mnemonic) (v : Byte) (c : Bool) : Bool :=
  match m with
  | .asl | .rol => decide (128 ≤ v.toNat)
  | .lsr | .ror => decide (v.toNat % 2 = 1)
  | _ => c

/-- R59, R112: whether an instruction makes a bus access besides its own bytes, the stack and the BRK vector. -/
def accessesData (i : Instr) : Bool :=
  match i.operand with
  | .imp | .acc | .imm _ | .rel _ => false
  | .abs _ => i.mnemonic != .jmp && i.mnemonic != .jsr
  | .zp _ | .zpx _ | .zpy _ | .abx _ | .aby _ | .ind _ | .izx _ | .izy _ => true

/-- R240: `s` after a TIA access that leaves the TIA as `t`, with the audio hook run (R305). -/
def State.tiaWritten (s : State) (t : Tia) : State := { s with tia := t, events := .audioStep :: s.events }

/-- The bytes an instruction stores to from `s`, as bus addresses: the target of a store-type or RMW-type instruction,
the stack slots of a push, JSR or BRK; none for every other form. -/
def storedAddrs (i : Instr) (s : State) : List Addr :=
  match i.mnemonic, i.operand with
  | _, .acc => []
  | .sta, o | .stx, o | .sty, o | .sax, o | .asl, o | .lsr, o | .rol, o | .ror, o | .inc, o | .dec, o
  | .slo, o | .dcp, o =>
    match effective o s with
    | .next e => [e.1.addr]
    | _ => []
  | .pha, _ | .php, _ => [stackAddr s.sp]
  | .jsr, _ => [stackAddr s.sp, stackAddr (s.sp - 1)]
  | .brk, _ => [stackAddr s.sp, stackAddr (s.sp - 1), stackAddr (s.sp - 2)]
  | .adc, _ | .alr, _ | .and, _ | .bcc, _ | .bcs, _ | .beq, _ | .bit, _ | .bmi, _ | .bne, _ | .bpl, _
  | .bvc, _ | .bvs, _ | .clc, _ | .cld, _ | .cli, _ | .clv, _ | .cmp, _ | .cpx, _ | .cpy, _ | .dex, _
  | .dey, _ | .eor, _ | .inx, _ | .iny, _ | .jmp, _ | .lax, _ | .lda, _ | .ldx, _ | .ldy, _ | .nop, _
  | .ora, _ | .pla, _ | .plp, _ | .rti, _ | .rts, _ | .sbc, _ | .sbx, _ | .sec, _ | .sed, _ | .sei, _
  | .tax, _ | .tay, _ | .tsx, _ | .txa, _ | .txs, _ | .tya, _ => []

end Sys2Proof.Machine
end

