-- ==== Sys2Proof/Certificates/Slice0/Obligations.lean ====
section
/-! DEFINITION. The statements for the provers, each from the numbered rules of spec/. Addresses, registers, flags and
the Clock are written out with plain arithmetic where a rule gives a formula. A statement about an instruction that reads its operand holds for every answer `State.ReadsOperand` gives; with the default
collaborators (`State.DefaultBus`) there is one for every state and form (O21), and another one may refuse the access. -/

open Sys2Proof Sys2Proof.Machine

/-- Words written out from R71, R77: instructions of every family and of each of the 13 formats decode to what they
stand for. -/
def Obligations.SpecWordsDecode : Prop :=
  decode [0xA9, 0x10] = .ok (.ldaImm 0x10, []) ∧ decode [0x8D, 0x34, 0x12] = .ok (.staAbs 0x1234, []) ∧
  decode [0xA5, 0x80] = .ok (.ldaZp 0x80, []) ∧ decode [0x96, 0x80] = .ok (.stxZpy 0x80, []) ∧ decode [0x61, 0x80] = .ok (.adcIzx 0x80, []) ∧
  decode [0xF1, 0x80] = .ok (.sbcIzy 0x80, []) ∧ decode [0x7E, 0x00, 0xF1] = .ok (.rorAbx 0xF100, []) ∧
  decode [0x0A] = .ok (.aslAcc, []) ∧ decode [0xD0, 0xFB] = .ok (.bneRel 0xFB, []) ∧
  decode [0x6C, 0xF0, 0x00] = .ok (.jmpInd 0x00F0, []) ∧ decode [0x00, 0xEA] = .ok (.brk, [0xEA]) ∧
  decode [0x28] = .ok (.plp, []) ∧ decode [0xDB, 0xF0, 0xF1] = .ok (.dcpAby 0xF1F0, []) ∧
  decode [0x14, 0x7F] = .ok (.nopZpx14 0x7F, []) ∧ decode [0x16, 0x7F] = .ok (.aslZpx 0x7F, [])

/-- R70, R72, R73: decoding the bytes of any instruction gives it back, whatever bytes follow. -/
def Obligations.DecodeInvertsEncode : Prop := ∀ (i : Instr) (rest : List Byte), decode (encode i ++ rest) = .ok (i, rest)

/-- R70, R72, R81: every byte string the decoder accepts is the encoding of what it answers, followed by what it leaves. -/
def Obligations.EncodeInvertsDecode : Prop :=
  ∀ (bytes rest : List Byte) (i : Instr), decode bytes = .ok (i, rest) → bytes = encode i ++ rest

/-- R80, R75, R321: each of the 52 unpopulated bytes, fetched at `PC`, ends the run with `UnimplementedOpcode`; the
decoder rejects exactly these bytes as unpopulated, and the default `POPULATED` holds exactly the others. -/
def Obligations.UnpopulatedOpcodeIsFatal : Prop :=
  ∀ (op : Byte),
    ((op ∈ ([0x02, 0x0B, 0x12, 0x22, 0x23, 0x27, 0x2B, 0x2F, 0x32, 0x33, 0x37, 0x3B, 0x3F, 0x42, 0x43, 0x47, 0x4F,
      0x52, 0x53, 0x57, 0x5B, 0x5F, 0x62, 0x63, 0x67, 0x6B, 0x6F, 0x72, 0x73, 0x77, 0x7B] : List Byte) ∨
      op ∈ ([0x7F, 0x8B, 0x92, 0x93, 0x9B, 0x9C, 0x9E, 0x9F, 0xAB, 0xB2, 0xBB, 0xD2, 0xE3, 0xE7, 0xEB, 0xEF, 0xF2,
      0xF3, 0xF7, 0xFB, 0xFF] : List Byte) ↔ ∀ rest, decode (op :: rest) = .error (.unpopulated op)) ∧
      (op ∉ launchParams.populated ↔ decode [op] = .error (.unpopulated op))) ∧
    ∀ (s t : State), s.Running → busRead s.pc s = .next (op, t) → decode [op] = .error (.unpopulated op) →
      step s = .fault (.unimplementedOpcode op s.pc)

/-- R105, R64: when the bytes at `PC` are in RAM or the ROM of the single-bank cartridge and decode to `i`, and the
opcode byte is in `POPULATED`, one step is `exec i`; in general a step is `exec` of what the fetch answers, in the state
the fetch leaves, and a fault of the fetch is the step's (R322); and an opcode byte outside `POPULATED` ends the run with `UnimplementedOpcode` (R75, R76). -/
def Obligations.StepRunsDecodedInstruction : Prop :=
  (∀ (s : State) (i : Instr) (bytes : List Byte), s.Running → decode bytes = .ok (i, []) →
    (∀ op, bytes[0]? = some op → op ∈ s.params.populated) →
    (∀ k, k < bytes.length → s.peek (s.pc + BitVec.ofNat 16 k) = bytes[k]?) → step s = exec i s) ∧
  (∀ (s t : State) (i : Instr), s.Running → fetch s = .next (i, t) → step s = exec i t) ∧
  (∀ (s : State) (f : Fault), s.Running → fetch s = .fault f → step s = .fault f) ∧
  ∀ (s t : State) (op : Byte), s.Running → busRead s.pc s = .next (op, t) → op ∉ s.params.populated →
    step s = .fault (.unimplementedOpcode op s.pc)

/-- R32, R358: between two instructions, a recorded fault stays and no step is taken, and the run ends at `STOP_CLOCK`
or at the quit signal. -/
def Obligations.BoundaryStops : Prop :=
  (∀ (s : State) (f : Fault), s.fault = some f → step s = .fault f) ∧
  (∀ (s : State), s.fault = none → s.quit = true → step s = .refused .runEnded) ∧
  (∀ (s : State) (c : Nat), s.fault = none → s.params.stopClock = some c → c ≤ s.clock → step s = .refused .runEnded) ∧
  ∀ (s : State) (f : Fault), step s = .fault f → (recordOutcome s (step s)).fault = some f

/-- R324, R48, R322: an instruction is refused only for the two writes that R245 and R260 name, and its only fatal
condition is `InvalidAddress` for an access that a cartridge or RIOT I/O collaborator other than the defaults refuses
(logs 20, 21): with the default ones it has none; a step's only other fatal condition is `UnimplementedOpcode`. -/
def Obligations.StopsAreOnlyTheNamedOnes : Prop :=
  (∀ (i : Instr) (s : State), (∃ t, exec i s = .next t) ∨ exec i s = .refused .rsyncWrite ∨
    (∃ n, exec i s = .refused (.resmpLock n)) ∨ s.AccessRefused (exec i s)) ∧
  (∀ (i : Instr) (s : State) (f : Fault), s.DefaultBus → exec i s ≠ .fault f) ∧
  ∀ (s : State) (f : Fault), s.fault = none → step s = .fault f →
    (∃ op, f = .unimplementedOpcode op s.pc) ∨ ∃ a, f = .invalidAddress a ∧ s.mayRefuse a = true

/-- The state after reset meets the invariant. -/
def Obligations.ResetStateMeetsInvariant : Prop := State.Inv State.reset

/-- R282, R303, R263, R260: every step keeps the invariant, from every state that has it. -/
def Obligations.StepKeepsInvariant : Prop := ∀ (s t : State), s.Inv → step s = .next t → t.Inv

/-- R21, R108: the Clock never decreases, and every step that completes advances it by at least two CPU cycles. -/
def Obligations.StepAdvancesClock : Prop := ∀ (s t : State), step s = .next t → s.clock + 2 * s.params.cycleToClock ≤ t.clock

/-- R25, R51: no step changes a ROM byte, a launch parameter, the quit signal or the recorded fault. -/
def Obligations.StepKeepsRomAndParameters : Prop :=
  ∀ (s t : State), step s = .next t →
    (∀ o, o < 0x1000 → Memory.read t.mem (romKey o) = Memory.read s.mem (romKey o)) ∧
    t.params = s.params ∧ t.quit = s.quit ∧ t.fault = s.fault

/-- R49, R40: the memory map on the low 13 bits of the address, the eight images of every address, and the places of
the two vectors. -/
def Obligations.RouterFollowsMap : Prop :=
  (∀ (addr : Addr) (a : Nat), a = addr.toNat % 0x2000 →
    (0x1000 ≤ a → route addr = some (.cart (a - 0x1000))) ∧
    (a < 0x1000 → 0x80 ≤ a % 0x100 → a % 0x400 < 0x200 → route addr = some (.ram (a % 0x80))) ∧
    (a < 0x1000 → 0x80 ≤ a % 0x100 → 0x200 ≤ a % 0x400 → route addr = some .riotIo) ∧
    (0x100 ≤ a → a < 0x180 → route addr = some (.ram (a % 0x80))) ∧
    (a < 0x1000 → a % 0x100 < 0x80 → ¬(0x100 ≤ a ∧ a < 0x180) → route addr = some (.tia (a % 0x40) (a % 0x10)))) ∧
  (∀ (addr : Addr) (k : Nat), route (addr + BitVec.ofNat 16 (k * 0x2000)) = route addr) ∧
  route 0xFFFC = some (.cart 0xFFC) ∧ route 0xFFFD = some (.cart 0xFFD) ∧
  route 0xFFFE = some (.cart 0xFFE) ∧ route 0xFFFF = some (.cart 0xFFF)

/-- R15, R42, R43, R364: push and pull, and the three images of a RAM byte in the zero page and the stack window; the
index `S & 0x7F` is the spec's decision D7. -/
def Obligations.StackIsZeroPageRam : Prop :=
  ∀ (s : State),
    (∀ v, push v s = .next { s with mem := stackWritten s.mem s.sp v, sp := BitVec.ofNat 8 (s.sp.toNat + 255) }) ∧
    pull s = .next (stackByte s.mem (BitVec.ofNat 8 (s.sp.toNat + 1)), { s with sp := BitVec.ofNat 8 (s.sp.toNat + 1) }) ∧
    ∀ k, k < 0x80 →
      s.peek (BitVec.ofNat 16 (0x0080 + k)) = some (Memory.read s.mem (ramKey k)) ∧
      s.peek (BitVec.ofNat 16 (0x0180 + k)) = some (Memory.read s.mem (ramKey k)) ∧
      s.peek (BitVec.ofNat 16 (0x0100 + k)) = some (Memory.read s.mem (ramKey k))

/-- R42, R43: a write to RAM replaces its byte and nothing else; reading it back at any of its images gives the byte
written and changes nothing; every other storage byte reads as before. -/
def Obligations.RamReadsBackWrites : Prop :=
  ∀ (s : State) (addr : Addr) (k : Nat) (v : Byte), Memory.wf s.mem = true → route addr = some (.ram k) →
    ∃ m, busWrite addr v s = .next { s with mem := m } ∧ Memory.wf m = true ∧
      (∀ b, route b = some (.ram k) → busRead b { s with mem := m } = .next (v, { s with mem := m })) ∧
      ∀ b, route b ≠ some (.ram k) → ({ s with mem := m } : State).peek b = s.peek b

/-- R50, R51, R53, R48, R322 (logs 6, 19, 20, 21): the single-bank cartridge gives its ROM byte, discards a write and
keeps no state; any other collaborator is handed `CartState` and the 12-bit offset, answers from these alone, and may
refuse. A RIOT I/O read is a free value and a write only an event, under the 13-bit address that the model chooses to hand
over; the default collaborator refuses none, and another refuses the addresses it does not decode. A refused access is
`InvalidAddress`. -/
def Obligations.CartridgeAndRiotAccesses : Prop :=
  ∀ (s : State) (addr a : Addr) (v : Byte), a = BitVec.ofNat 16 (addr.toNat % 0x2000) →
    (∀ o, route addr = some (.cart o) → s.params.cart = .singleBank →
      busRead addr s = .next (Memory.read s.mem (romKey o), s) ∧ busWrite addr v s = .next s) ∧
    (∀ o k, route addr = some (.cart o) → s.params.cart = .other k →
      busRead addr s = (match Config.cartRead k s.cart (addr.setWidth 12) with
        | some (b, c) => .next (b, { s with cart := c })
        | none => .fault (.invalidAddress addr)) ∧
      busWrite addr v s = (match Config.cartWrite k s.cart (addr.setWidth 12) v with
        | some c => .next { s with cart := c }
        | none => .fault (.invalidAddress addr))) ∧
    (route addr = some .riotIo → s.params.riotIO = .oracle →
      busRead addr s = .next (Config.freeByte s.draws, { s with draws := s.draws + 1 }) ∧
      busWrite addr v s = .next { s with events := .riotWrite a v s.clock :: s.events }) ∧
    (∀ k, route addr = some .riotIo → s.params.riotIO = .other k →
      busRead addr s = (if Config.riotDecodes k .read a then
        .next (Config.freeByte s.draws, { s with draws := s.draws + 1 }) else .fault (.invalidAddress addr)) ∧
      busWrite addr v s = (if Config.riotDecodes k .write a then
        .next { s with events := .riotWrite a v s.clock :: s.events } else .fault (.invalidAddress addr)))

/-- R240, R262, R263: a TIA read first catches up; ports 0 to 7 give bits 7 and 6 of the latch bytes in that order, of CXBLPF
bit 7, all other bits zero; ports 8 to 15 give a free value (log 6). -/
def Obligations.TiaReadsReturnLatches : Prop :=
  ∀ (s : State) (addr : Addr) (reg port : Nat) (c : Latches), route addr = some (.tia reg port) →
    c = (s.tia.catchUp s.params s.clock).latch →
    (port < 8 → busRead addr s = .next
      ([c.cxmp.zero &&& 0xC0, c.cxmp.one &&& 0xC0, c.cxpfb.zero &&& 0xC0, c.cxpfb.one &&& 0xC0, c.cxmfb.zero &&& 0xC0,
        c.cxmfb.one &&& 0xC0, c.cxblpf &&& 0x80, c.cxppmm &&& 0xC0].getD port 0,
        s.tiaWritten (s.tia.catchUp s.params s.clock))) ∧
    (8 ≤ port → busRead addr s = .next (Config.freeByte s.draws,
      { s.tiaWritten (s.tia.catchUp s.params s.clock) with draws := s.draws + 1 }))

/-- R354, R44, R356: `reset()` loads `PC` from the two bus reads of the reset vector, low byte first, and changes nothing
else, `CartState` included (log 22), or raises `InvalidAddress` from a read; with the single-bank cartridge it answers with
the ROM bytes. R33, R352: what a launch fixes and what it takes from its open values. The state after reset is what
`reset()` makes of the power-on state. -/
def Obligations.ResetLoadsVector : Prop :=
  (∀ (s : State),
    applyReset s = (andThen (busRead 0xFFFC s) fun lo => andThen (busRead 0xFFFD lo.2) fun hi =>
      .next { s with pc := BitVec.ofNat 16 (256 * hi.1.toNat + lo.1.toNat) }) ∧
    ((∃ t, applyReset s = .next t) ∨ s.AccessRefused (applyReset s)) ∧
    (s.params.cart = .singleBank → ∃ lo hi, s.peek 0xFFFC = some lo ∧ s.peek 0xFFFD = some hi ∧
      applyReset s = .next { s with pc := BitVec.ofNat 16 (256 * hi.toNat + lo.toNat) })) ∧
  (∀ (p : Params) (u t : State) (image : List Byte), launch p u image = .next t →
    (t.clock = 0 ∧ t.fault = none ∧ t.params = p ∧ t.tia.lastUpdate = 0 ∧ t.tia.screenStart = 0 ∧
      t.tia.isVsync = false ∧ t.tia.PositionsOk ∧ (p.cart = .singleBank → t.cart = [])) ∧
    t.a = u.a ∧ t.x = u.x ∧ t.y = u.y ∧ t.sp = u.sp ∧ t.flags = u.flags ∧
    { t.tia with
      resp := u.tia.resp, resm := u.tia.resm, resbl := u.tia.resbl, latch := u.tia.latch, display := u.tia.display
      lastUpdate := u.tia.lastUpdate, screenStart := u.tia.screenStart, isVsync := u.tia.isVsync } = u.tia ∧
    (∀ c, c = u.tia.latch → t.tia.latch = {
      cxmp := ⟨c.cxmp.zero &&& 0xC0, c.cxmp.one &&& 0xC0⟩, cxpfb := ⟨c.cxpfb.zero &&& 0xC0, c.cxpfb.one &&& 0xC0⟩
      cxmfb := ⟨c.cxmfb.zero &&& 0xC0, c.cxmfb.one &&& 0xC0⟩, cxblpf := c.cxblpf &&& 0x80, cxppmm := c.cxppmm &&& 0xC0 }) ∧
    ∀ k, k < 0x80 → Memory.read t.mem (ramKey k) = Memory.read u.mem (ramKey k)) ∧
  applyReset State.powerOn = .next State.reset

/-- R245, R260: exactly the writes to RSYNC, and to RESMP0 or RESMP1 with bit 1 set, are refused; every other bus write
answers, unless a collaborator other than the defaults makes it `InvalidAddress` (R48, logs 20 and 21). -/
def Obligations.RefusedWritesAreRefused : Prop :=
  ∀ (s : State) (addr : Addr) (v : Byte),
    (refusesWrite addr v = false → s.mayRefuse addr = false → ∃ t, busWrite addr v s = .next t) ∧
    (refusesWrite addr v = false → (∃ t, busWrite addr v s = .next t) ∨
      s.mayRefuse addr = true ∧ busWrite addr v s = .fault (.invalidAddress addr)) ∧
    ∀ port, (route addr = some (.tia 0x03 port) → busWrite addr v s = .refused .rsyncWrite) ∧
      (route addr = some (.tia 0x28 port) → 2 ≤ v.toNat % 4 → busWrite addr v s = .refused (.resmpLock .zero)) ∧
      (route addr = some (.tia 0x29 port) → 2 ≤ v.toNat % 4 → busWrite addr v s = .refused (.resmpLock .one))

/-- R91 to R98: the effective addresses that need no pointer, their wrap, and the page crossing. -/
def Obligations.EffectiveAddresses : Prop :=
  ∀ (s : State) (z : Byte) (w : Addr),
    effective (.imm z) s = .next (⟨BitVec.ofNat 16 (s.pc.toNat + 1), false⟩, s) ∧
    effective (.zp z) s = .next (⟨BitVec.ofNat 16 z.toNat, false⟩, s) ∧
    effective (.zpx z) s = .next (⟨BitVec.ofNat 16 ((z.toNat + s.x.toNat) % 0x100), false⟩, s) ∧
    effective (.zpy z) s = .next (⟨BitVec.ofNat 16 ((z.toNat + s.y.toNat) % 0x100), false⟩, s) ∧
    effective (.abs w) s = .next (⟨w, false⟩, s) ∧
    effective (.abx w) s =
      .next (⟨BitVec.ofNat 16 (w.toNat + s.x.toNat), decide (0x100 ≤ w.toNat % 0x100 + s.x.toNat)⟩, s) ∧
    effective (.aby w) s =
      .next (⟨BitVec.ofNat 16 (w.toNat + s.y.toNat), decide (0x100 ≤ w.toNat % 0x100 + s.y.toNat)⟩, s)

/-- R99 to R101: the pointer modes, from what their two bus reads give: low byte first, the pointer of `izx` and `izy`
wrapping inside the zero page, that of `ind` as the launch parameter says. -/
def Obligations.PointerModes : Prop :=
  ∀ (s t u : State) (z lo hi : Byte) (ptr : Addr) (base : Nat), base = 256 * hi.toNat + lo.toNat →
    (busRead (BitVec.ofNat 16 ((z.toNat + s.x.toNat) % 0x100)) s = .next (lo, t) →
      busRead (BitVec.ofNat 16 ((z.toNat + s.x.toNat + 1) % 0x100)) t = .next (hi, u) →
      effective (.izx z) s = .next (⟨BitVec.ofNat 16 base, false⟩, u)) ∧
    (busRead (BitVec.ofNat 16 z.toNat) s = .next (lo, t) →
      busRead (BitVec.ofNat 16 ((z.toNat + 1) % 0x100)) t = .next (hi, u) →
      effective (.izy z) s = .next (⟨BitVec.ofNat 16 (base + s.y.toNat), decide (0x100 ≤ lo.toNat + s.y.toNat)⟩, u)) ∧
    (s.params.jmpIndPageWrap = true → busRead ptr s = .next (lo, t) →
      busRead (BitVec.ofNat 16 (ptr.toNat / 0x100 * 0x100 + (ptr.toNat + 1) % 0x100)) t = .next (hi, u) →
      effective (.ind ptr) s = .next (⟨BitVec.ofNat 16 base, false⟩, u)) ∧
    (s.params.jmpIndPageWrap = false → busRead ptr s = .next (lo, t) →
      busRead (BitVec.ofNat 16 (ptr.toNat + 1)) t = .next (hi, u) →
      effective (.ind ptr) s = .next (⟨BitVec.ofNat 16 base, false⟩, u))

/-- R90, R105, R112, R46: with the default collaborators, reading an operand, finding a store's address and reading an RMW
target always answer; with any, they change only the Clock and what bus reads change (`CartState`, the TIA, the draws and
the events); and a pointer read or data read that another collaborator refuses ends the instruction by that
`InvalidAddress` (R48, R320, R322; logs 20 and 21). -/
def Obligations.OperandAccessesAnswer : Prop :=
  ∀ (s : State) (o : Operand),
    (s.DefaultBus → (∃ v t, s.ReadsOperand o v t) ∧ (∃ a t, s.StoresTo o a t) ∧ ∃ a v t, s.ReadsTarget o a v t) ∧
    (∀ v t, s.ReadsOperand o v t → s.ReadFrame t) ∧ (∀ a t, s.StoresTo o a t → s.ReadFrame t) ∧
    (∀ a v t, s.ReadsTarget o a v t → s.ReadFrame t) ∧
    ∀ i : Instr, i.operand = o → accessesData i = true →
      (match effective o s with
        | .next _ => True
        | .fault f => exec i s = .fault f ∧ ∃ a, f = .invalidAddress a ∧ s.mayRefuse a = true
        | .refused _ => False) ∧
      (i.mnemonic ∈ [Mnemonic.adc, .and, .bit, .cmp, .cpx, .cpy, .eor, .lax, .lda, .ldx, .ldy, .nop, .ora, .sbc] →
        ∀ e u, effective o s = .next (e, u) →
        match busRead e.addr { u with clock := s.clockAfter (readCycles o e.crossed - 2) } with
        | .next (v, w) => s.ReadsOperand o v { w with clock := s.clockAfter (readCycles o e.crossed) }
        | .fault f => exec i s = .fault f ∧ f = .invalidAddress e.addr ∧ s.mayRefuse e.addr = true
        | .refused _ => False) ∧
      (i.mnemonic ∈ [Mnemonic.asl, .lsr, .rol, .ror, .inc, .dec, .slo, .dcp] →
        ∀ e u, effective o s = .next (e, u) →
        match busRead e.addr { u with clock := s.clockAfter (modifyCycles o - 4) } with
        | .next (v, w) => s.ReadsTarget o e.addr v { w with clock := s.clockAfter (modifyCycles o) }
        | .fault f => exec i s = .fault f ∧ f = .invalidAddress e.addr ∧ s.mayRefuse e.addr = true
        | .refused _ => False)

/-- R121 to R123, R222: LDA, LDX, LDY and LAX complete in every form with the operand byte and its N and Z. -/
def Obligations.LoadResults : Prop :=
  ∀ (i : Instr) (s : State), (s.DefaultBus → ∃ v t, s.ReadsOperand i.operand v t) ∧
    ∀ (v : Byte) (t : State), s.ReadsOperand i.operand v t →
    (i.mnemonic = .lda → exec i s = .next { t with a := v, flags := nzFlags s.flags v, pc := nextPc s i.operand }) ∧
    (i.mnemonic = .ldx → exec i s = .next { t with x := v, flags := nzFlags s.flags v, pc := nextPc s i.operand }) ∧
    (i.mnemonic = .ldy → exec i s = .next { t with y := v, flags := nzFlags s.flags v, pc := nextPc s i.operand }) ∧
    (i.mnemonic = .lax → exec i s = .next { t with a := v, x := v, flags := nzFlags s.flags v, pc := nextPc s i.operand })

/-- R145 to R148: AND, ORA, EOR and BIT complete in every form. -/
def Obligations.LogicResults : Prop :=
  ∀ (i : Instr) (s : State), (s.DefaultBus → ∃ v t, s.ReadsOperand i.operand v t) ∧
    ∀ (v : Byte) (t : State), s.ReadsOperand i.operand v t →
    (i.mnemonic = .and → exec i s = .next { t with a := s.a &&& v, flags := nzFlags s.flags (s.a &&& v), pc := nextPc s i.operand }) ∧
    (i.mnemonic = .ora → exec i s = .next { t with a := s.a ||| v, flags := nzFlags s.flags (s.a ||| v), pc := nextPc s i.operand }) ∧
    (i.mnemonic = .eor → exec i s = .next { t with a := s.a ^^^ v, flags := nzFlags s.flags (s.a ^^^ v), pc := nextPc s i.operand }) ∧
    (i.mnemonic = .bit → exec i s = .next { t with
        flags := { s.flags with n := decide (128 ≤ v.toNat), v := decide (64 ≤ v.toNat % 128), z := decide (s.a &&& v = 0) }
        pc := nextPc s i.operand })

/-- R141: ADC with `D` = 0 completes in every form; C is the carry out of the 8-bit sum, V signed overflow. -/
def Obligations.AdcBinaryResult : Prop :=
  ∀ (i : Instr) (s : State), i.mnemonic = .adc → s.flags.d = false → (s.DefaultBus → ∃ v t, s.ReadsOperand i.operand v t) ∧
    ∀ (v : Byte) (t : State), s.ReadsOperand i.operand v t → ∀ (sum : Nat) (signed : Int),
      sum = s.a.toNat + v.toNat + s.flags.c.toNat → signed = s.a.toInt + v.toInt + s.flags.c.toNat →
      exec i s = .next { t with
        a := BitVec.ofNat 8 sum
        flags := { s.flags with
          n := decide (128 ≤ sum % 256), z := decide (sum % 256 = 0)
          c := decide (255 < sum), v := decide (signed < -128 ∨ 127 < signed) }
        pc := nextPc s i.operand }

/-- R143: SBC with `D` = 0 completes in every form; C means no borrow, V signed overflow. -/
def Obligations.SbcBinaryResult : Prop :=
  ∀ (i : Instr) (s : State), i.mnemonic = .sbc → s.flags.d = false → (s.DefaultBus → ∃ v t, s.ReadsOperand i.operand v t) ∧
    ∀ (v : Byte) (t : State), s.ReadsOperand i.operand v t → ∀ (diff signed : Int),
      diff = s.a.toNat - v.toNat - (1 - s.flags.c.toNat) → signed = s.a.toInt - v.toInt - (1 - s.flags.c.toNat) →
      exec i s = .next { t with
        a := BitVec.ofInt 8 diff
        flags := { s.flags with
          n := decide (128 ≤ diff % 256), z := decide (diff % 256 = 0)
          c := decide (0 ≤ diff), v := decide (signed < -128 ∨ 127 < signed) }
        pc := nextPc s i.operand }

/-- R142, R144: ADC and SBC with `D` = 1 complete in every form with the result of the digit-wise algorithm, C and Z as
the rules say, and N and V free values (log 6), on which nothing here rests. -/
def Obligations.DecimalResults : Prop :=
  ∀ (i : Instr) (s : State), s.flags.d = true → (s.DefaultBus → ∃ v t, s.ReadsOperand i.operand v t) ∧
    ∀ (v : Byte) (t : State), s.ReadsOperand i.operand v t →
    (i.mnemonic = .adc → ∀ (al sum : Nat),
      al = s.a.toNat % 16 + v.toNat % 16 + s.flags.c.toNat →
      sum = s.a.toNat / 16 * 16 + v.toNat / 16 * 16 + (if 10 ≤ al then (al + 6) % 16 + 16 else al) →
      ∃ n w, exec i s = .next { t with
        a := BitVec.ofNat 8 (if 0xA0 ≤ sum then sum + 0x60 else sum)
        flags := { s.flags with
          n := n, v := w, z := decide ((if 0xA0 ≤ sum then sum + 0x60 else sum) % 256 = 0)
          c := decide (0x100 ≤ if 0xA0 ≤ sum then sum + 0x60 else sum) }
        pc := nextPc s i.operand, draws := t.draws + 2 }) ∧
    (i.mnemonic = .sbc → ∀ (al diff : Int),
      al = (s.a.toNat % 16 : Nat) - (v.toNat % 16 : Nat) + s.flags.c.toNat - 1 →
      diff = (s.a.toNat / 16 * 16 : Nat) - (v.toNat / 16 * 16 : Nat) + (if al < 0 then (al - 6) % 16 - 16 else al) →
      ∃ n w, exec i s = .next { t with
        a := BitVec.ofInt 8 (if diff < 0 then diff - 0x60 else diff)
        flags := { s.flags with
          n := n, v := w, z := decide ((if diff < 0 then diff - 0x60 else diff) % 256 = 0)
          c := decide (v.toNat + 1 ≤ s.a.toNat + s.flags.c.toNat) }
        pc := nextPc s i.operand, draws := t.draws + 2 })

/-- R142, R144: on bytes of two decimal digits the decimal results are decimal addition and subtraction modulo 100, the
carry being the decimal carry and not-borrow. -/
def Obligations.DecimalArithmeticIsDecimal : Prop :=
  ∀ (a v : Byte) (c : Bool) (da dv : Nat), a.toNat / 16 < 10 → a.toNat % 16 < 10 → v.toNat / 16 < 10 → v.toNat % 16 < 10 →
    da = a.toNat / 16 * 10 + a.toNat % 16 → dv = v.toNat / 16 * 10 + v.toNat % 16 →
    ((addDecimal a v c).res.toNat / 16 * 10 + (addDecimal a v c).res.toNat % 16 = (da + dv + c.toNat) % 100 ∧
      (addDecimal a v c).res.toNat % 16 < 10 ∧ (addDecimal a v c).carry = decide (100 ≤ da + dv + c.toNat)) ∧
    ((subDecimal a v c).res.toNat / 16 * 10 + (subDecimal a v c).res.toNat % 16 = (da + 99 + c.toNat - dv) % 100 ∧
      (subDecimal a v c).res.toNat % 16 < 10 ∧ (subDecimal a v c).carry = decide (dv + 1 ≤ da + c.toNat))

/-- R149 to R151: CMP, CPX and CPY complete in every form, change no register, and set N, Z and C. -/
def Obligations.CompareResults : Prop :=
  ∀ (i : Instr) (s : State), (s.DefaultBus → ∃ v t, s.ReadsOperand i.operand v t) ∧
    ∀ (v : Byte) (t : State), s.ReadsOperand i.operand v t →
    (i.mnemonic = .cmp → exec i s = .next { t with flags := compareFlags s.flags s.a v, pc := nextPc s i.operand }) ∧
    (i.mnemonic = .cpx → exec i s = .next { t with flags := compareFlags s.flags s.x v, pc := nextPc s i.operand }) ∧
    (i.mnemonic = .cpy → exec i s = .next { t with flags := compareFlags s.flags s.y v, pc := nextPc s i.operand })

/-- R223, R224: ALR and SBX, with their encodings. -/
def Obligations.AlrAndSbxResults : Prop :=
  ∀ (s : State) (v : Byte),
    encode (.alrImm v) = [0x4B, v] ∧
    exec (.alrImm v) s = .next { s with
      a := BitVec.ofNat 8 ((s.a &&& v).toNat / 2)
      flags := { s.flags with n := false, z := decide ((s.a &&& v).toNat / 2 = 0), c := decide ((s.a &&& v).toNat % 2 = 1) }
      pc := BitVec.ofNat 16 (s.pc.toNat + 2), clock := s.clockAfter 2 } ∧
    encode (.sbxImm v) = [0xCB, v] ∧
    exec (.sbxImm v) s = .next { s with
      x := (s.a &&& s.x) - v, flags := compareFlags s.flags (s.a &&& s.x) v
      pc := BitVec.ofNat 16 (s.pc.toNat + 2), clock := s.clockAfter 2 }

/-- R228 to R232: the NOP forms with an operand read it and change no register, no flag and no memory. -/
def Obligations.ReadingNopResults : Prop :=
  ∀ (i : Instr) (s : State), i.mnemonic = .nop → i.operand ≠ .imp → (s.DefaultBus → ∃ v t, s.ReadsOperand i.operand v t) ∧
    ∀ (v : Byte) (t : State), s.ReadsOperand i.operand v t → exec i s = .next { t with pc := nextPc s i.operand }

/-- R127 to R132: the six transfers, with their encodings. -/
def Obligations.TransferResults : Prop :=
  ∀ (s r : State), r = { s with pc := BitVec.ofNat 16 (s.pc.toNat + 1), clock := s.clockAfter 2 } →
    encode .tax = [0xAA] ∧ exec .tax s = .next { r with x := s.a, flags := nzFlags s.flags s.a } ∧
    encode .tay = [0xA8] ∧ exec .tay s = .next { r with y := s.a, flags := nzFlags s.flags s.a } ∧
    encode .txa = [0x8A] ∧ exec .txa s = .next { r with a := s.x, flags := nzFlags s.flags s.x } ∧
    encode .tya = [0x98] ∧ exec .tya s = .next { r with a := s.y, flags := nzFlags s.flags s.y } ∧
    encode .tsx = [0xBA] ∧ exec .tsx s = .next { r with x := s.sp, flags := nzFlags s.flags s.sp } ∧
    encode .txs = [0x9A] ∧ exec .txs s = .next { r with sp := s.x }

/-- R154 to R157: INX, INY, DEX and DEY wrap modulo 256 and set N and Z, with their encodings. -/
def Obligations.RegisterStepResults : Prop :=
  ∀ (s r : State) (x1 y1 x0 y0 : Byte), r = { s with pc := BitVec.ofNat 16 (s.pc.toNat + 1), clock := s.clockAfter 2 } →
    x1.toNat = (s.x.toNat + 1) % 256 → y1.toNat = (s.y.toNat + 1) % 256 →
    x0.toNat = (s.x.toNat + 255) % 256 → y0.toNat = (s.y.toNat + 255) % 256 →
    encode .inx = [0xE8] ∧ exec .inx s = .next { r with x := x1, flags := nzFlags s.flags x1 } ∧
    encode .iny = [0xC8] ∧ exec .iny s = .next { r with y := y1, flags := nzFlags s.flags y1 } ∧
    encode .dex = [0xCA] ∧ exec .dex s = .next { r with x := x0, flags := nzFlags s.flags x0 } ∧
    encode .dey = [0x88] ∧ exec .dey s = .next { r with y := y0, flags := nzFlags s.flags y0 }

/-- R205 to R212, R227: the flag instructions and the implied NOPs, with their encodings. -/
def Obligations.FlagAndNopResults : Prop :=
  ∀ (s r : State), r = { s with pc := BitVec.ofNat 16 (s.pc.toNat + 1), clock := s.clockAfter 2 } →
    (encode .clc = [0x18] ∧ exec .clc s = .next { r with flags := { s.flags with c := false } } ∧
     encode .sec = [0x38] ∧ exec .sec s = .next { r with flags := { s.flags with c := true } } ∧
     encode .cli = [0x58] ∧ exec .cli s = .next { r with flags := { s.flags with i := false } } ∧
     encode .sei = [0x78] ∧ exec .sei s = .next { r with flags := { s.flags with i := true } } ∧
     encode .cld = [0xD8] ∧ exec .cld s = .next { r with flags := { s.flags with d := false } } ∧
     encode .sed = [0xF8] ∧ exec .sed s = .next { r with flags := { s.flags with d := true } } ∧
     encode .clv = [0xB8] ∧ exec .clv s = .next { r with flags := { s.flags with v := false } }) ∧
    ∀ (i : Instr) (op : Byte), (i, op) ∈ [(Instr.nop, 0xEA), (.nopImp1A, 0x1A), (.nopImp3A, 0x3A), (.nopImp5A, 0x5A),
        (.nopImp7A, 0x7A), (.nopImpDA, 0xDA), (.nopImpFA, 0xFA)] →
      encode i = [op] ∧ exec i s = .next r

/-- R170 to R174: ASL, LSR, ROL and ROR on the accumulator complete in 2 cycles; C is the bit shifted out. -/
def Obligations.AccumulatorShiftResults : Prop :=
  ∀ (i : Instr) (s : State), i ∈ [Instr.aslAcc, .lsrAcc, .rolAcc, .rorAcc] →
    exec i s = .next { s with
      a := modifiedByte i.mnemonic s.a s.flags.c
      flags := { nzFlags s.flags (modifiedByte i.mnemonic s.a s.flags.c) with c := modifiedCarry i.mnemonic s.a s.flags.c }
      pc := BitVec.ofNat 16 (s.pc.toNat + 1), clock := s.clockAfter 2 }

/-- R124 to R126, R225: STA, STX, STY and SAX complete in every form unless the write is one the spec refuses: the
register (for SAX, A AND X) is written at the effective address, at the Clock of the end, and no flag changes. Where the
write is refused, by the spec or by a collaborator (R48), so is the instruction, by the same name. -/
def Obligations.StoreResults : Prop :=
  ∀ (i : Instr) (s t : State) (a : Addr) (r : Byte),
    (i.mnemonic, r) ∈ [(Mnemonic.sta, s.a), (.stx, s.x), (.sty, s.y), (.sax, s.a &&& s.x)] →
    s.StoresTo i.operand a t →
    (refusesWrite a r = false → s.mayRefuse a = false →
      ∃ u, busWrite a r t = .next u ∧ exec i s = .next { u with pc := nextPc s i.operand }) ∧
    match busWrite a r t with
    | .next u => exec i s = .next { u with pc := nextPc s i.operand }
    | .fault f => exec i s = .fault f
    | .refused x => exec i s = .refused x

/-- R152, R153, R170 to R174: INC, DEC, ASL, LSR, ROL and ROR in memory complete in every form unless the write is one
the spec refuses: one read and one write of the modified byte at the effective address, with the flags of the result.
Where the write is refused, by the spec or by a collaborator (R48), so is the instruction, by the same name. -/
def Obligations.MemoryModifyResults : Prop :=
  ∀ (i : Instr) (s t w : State) (a : Addr) (v r : Byte),
    i.mnemonic ∈ [Mnemonic.inc, .dec, .asl, .lsr, .rol, .ror] → i.operand ≠ .acc →
    s.ReadsTarget i.operand a v t → r = modifiedByte i.mnemonic v s.flags.c →
    w = { t with flags := { nzFlags s.flags r with c := modifiedCarry i.mnemonic v s.flags.c } } →
    (refusesWrite a r = false → s.mayRefuse a = false →
      ∃ u, busWrite a r w = .next u ∧ exec i s = .next { u with pc := nextPc s i.operand }) ∧
    match busWrite a r w with
    | .next u => exec i s = .next { u with pc := nextPc s i.operand }
    | .fault f => exec i s = .fault f
    | .refused x => exec i s = .refused x

/-- R221, R226: SLO and DCP complete in every form unless the write is one the spec refuses; where it is refused, by
the spec or by a collaborator (R48), so is the instruction, by the same name. -/
def Obligations.SloAndDcpResults : Prop :=
  ∀ (i : Instr) (s t w : State) (a : Addr) (v r : Byte), s.ReadsTarget i.operand a v t →
    (i.mnemonic = .slo ∧ r = BitVec.ofNat 8 (2 * v.toNat) ∧ w = { t with
        a := s.a ||| r, flags := { nzFlags s.flags (s.a ||| r) with c := decide (128 ≤ v.toNat) } } ∨
      i.mnemonic = .dcp ∧ r = BitVec.ofNat 8 (v.toNat + 255) ∧ w = { t with flags := compareFlags s.flags s.a r }) →
    (refusesWrite a r = false → s.mayRefuse a = false →
      ∃ u, busWrite a r w = .next u ∧ exec i s = .next { u with pc := nextPc s i.operand }) ∧
    match busWrite a r w with
    | .next u => exec i s = .next { u with pc := nextPc s i.operand }
    | .fault f => exec i s = .fault f
    | .refused x => exec i s = .refused x

/-- R180 to R188: the eight branches: their encodings, conditions, target, and 2, 3 or 4 cycles. -/
def Obligations.BranchResults : Prop :=
  ∀ (s taken past : State) (d : Byte) (target next : Addr),
    target = BitVec.ofInt 16 (s.pc.toNat + d.toInt + 2) → next = BitVec.ofNat 16 (s.pc.toNat + 2) →
    taken = { s with
      pc := target, clock := s.clockAfter (2 + 1 + if target.toNat / 256 ≠ next.toNat / 256 then 1 else 0) } →
    past = { s with pc := next, clock := s.clockAfter 2 } →
    encode (.bplRel d) = [0x10, d] ∧ exec (.bplRel d) s = .next (if s.flags.n = false then taken else past) ∧
    encode (.bmiRel d) = [0x30, d] ∧ exec (.bmiRel d) s = .next (if s.flags.n = true then taken else past) ∧
    encode (.bvcRel d) = [0x50, d] ∧ exec (.bvcRel d) s = .next (if s.flags.v = false then taken else past) ∧
    encode (.bvsRel d) = [0x70, d] ∧ exec (.bvsRel d) s = .next (if s.flags.v = true then taken else past) ∧
    encode (.bccRel d) = [0x90, d] ∧ exec (.bccRel d) s = .next (if s.flags.c = false then taken else past) ∧
    encode (.bcsRel d) = [0xB0, d] ∧ exec (.bcsRel d) s = .next (if s.flags.c = true then taken else past) ∧
    encode (.bneRel d) = [0xD0, d] ∧ exec (.bneRel d) s = .next (if s.flags.z = false then taken else past) ∧
    encode (.beqRel d) = [0xF0, d] ∧ exec (.beqRel d) s = .next (if s.flags.z = true then taken else past)

/-- R189, R191: JMP goes to its effective address in 3 or 5 cycles; RTS pulls the address, low byte first, and adds 1. -/
def Obligations.JumpAndReturnResults : Prop :=
  ∀ (s : State),
    (∀ w, encode (.jmpAbs w) = [0x4C, loByte w, hiByte w] ∧
      exec (.jmpAbs w) s = .next { s with pc := w, clock := s.clockAfter 3 }) ∧
    (∀ w, encode (.jmpInd w) = [0x6C, loByte w, hiByte w] ∧
      (∀ e t, effective (.ind w) s = .next (e, t) →
        exec (.jmpInd w) s = .next { t with pc := e.addr, clock := s.clockAfter 5 }) ∧
      (s.DefaultBus → ∃ e t, effective (.ind w) s = .next (e, t) ∧
        exec (.jmpInd w) s = .next { t with pc := e.addr, clock := s.clockAfter 5 })) ∧
    ∀ (lo hi : Byte), lo = stackByte s.mem (s.sp + 1) → hi = stackByte s.mem (s.sp + 2) →
      encode .rts = [0x60] ∧ exec .rts s = .next { s with
        sp := s.sp + 2, pc := BitVec.ofNat 16 (256 * hi.toNat + lo.toNat + 1), clock := s.clockAfter 6 }

/-- R190: JSR pushes the address of its third byte, high byte first, costs 6 cycles and goes to its operand, whose high
byte `h` is the one at `pc + 2` after the pushes: the fetched one where that byte is a device register or another
cartridge's, and whatever storage then holds where it is storage that held the fetched one. -/
def Obligations.JsrResult : Prop :=
  ∀ (s t : State) (w : Addr) (ret : Nat), ret = (s.pc.toNat + 2) % 0x10000 →
    t = { s with
      mem := stackWritten (stackWritten s.mem s.sp (BitVec.ofNat 8 (ret / 256))) (s.sp - 1) (BitVec.ofNat 8 (ret % 256))
      sp := s.sp - 2, clock := s.clockAfter 6 } →
    encode (.jsrAbs w) = [0x20, loByte w, hiByte w] ∧ ∃ h : Byte,
      exec (.jsrAbs w) s = .next { t with pc := BitVec.ofNat 16 (256 * h.toNat + w.toNat % 256) } ∧
      (s.peek (s.pc + 2) = none → h.toNat = w.toNat / 256) ∧
      (t.peek (s.pc + 2) = s.peek (s.pc + 2) → h.toNat = w.toNat / 256) ∧
      ((s.peek (s.pc + 2)).map BitVec.toNat = some (w.toNat / 256) → t.peek (s.pc + 2) = some h)

/-- R192, R326: BRK pushes `pc + 2` and the status byte with bits 5 and 4 set, sets I, keeps the other flags, and goes
through the two bus reads of the vector at 0xFFFE in 7 cycles. With the single-bank cartridge they give the ROM bytes and
change nothing; with any other they change `CartState` alone, and one that is refused ends it (R48). -/
def Obligations.BrkTakesTheTrap : Prop :=
  ∀ (s w : State) (ret : Nat), ret = (s.pc.toNat + 2) % 0x10000 →
    w = { s with
      mem := stackWritten (stackWritten (stackWritten s.mem s.sp (BitVec.ofNat 8 (ret / 256))) (s.sp - 1)
        (BitVec.ofNat 8 (ret % 256))) (s.sp - 2) (statusByte s.flags)
      sp := s.sp - 3, flags := { s.flags with i := true } } →
    encode .brk = [0x00] ∧
    exec .brk s = (andThen (busRead 0xFFFE w) fun lo => andThen (busRead 0xFFFF lo.2) fun hi => .next { w with
      cart := hi.2.cart, pc := BitVec.ofNat 16 (256 * hi.1.toNat + lo.1.toNat), clock := s.clockAfter 7 }) ∧
    (s.params.cart = .singleBank → ∃ lo hi, s.peek 0xFFFE = some lo ∧ s.peek 0xFFFF = some hi ∧
      exec .brk s = .next { w with pc := BitVec.ofNat 16 (256 * hi.toNat + lo.toNat), clock := s.clockAfter 7 })

/-- R193, R328: RTI restores the six flags from the pulled byte and continues at the pulled address, with no increment,
in 6 cycles. -/
def Obligations.RtiReturnsFromTheTrap : Prop :=
  ∀ (s : State) (p lo hi : Byte), p = stackByte s.mem (s.sp + 1) → lo = stackByte s.mem (s.sp + 2) →
    hi = stackByte s.mem (s.sp + 3) →
    encode .rti = [0x40] ∧ exec .rti s = .next { s with
      sp := s.sp + 3, pc := BitVec.ofNat 16 (256 * hi.toNat + lo.toNat), clock := s.clockAfter 6
      flags := { n := decide (128 ≤ p.toNat), v := decide (64 ≤ p.toNat % 128), d := decide (8 ≤ p.toNat % 16)
                 i := decide (4 ≤ p.toNat % 8), z := decide (2 ≤ p.toNat % 4), c := decide (p.toNat % 2 = 1) } }

/-- R190, R191, R192, R193, R201 to R204: what a call, a trap or a push saves, the matching return or pull restores. -/
def Obligations.ReturnsUndoCalls : Prop :=
  ∀ (s t : State), Memory.wf s.mem = true →
    (∀ w, exec (.jsrAbs w) s = .next t →
      ∃ u, exec .rts t = .next u ∧ u.pc = s.pc + 3 ∧ u.sp = s.sp ∧ u.flags = s.flags) ∧
    (exec .brk s = .next t → ∃ u, exec .rti t = .next u ∧ u.pc = s.pc + 2 ∧ u.sp = s.sp ∧ u.flags = s.flags) ∧
    (exec .pha s = .next t → ∃ u, exec .pla t = .next u ∧ u.a = s.a ∧ u.sp = s.sp) ∧
    (exec .php s = .next t → ∃ u, exec .plp t = .next u ∧ u.flags = s.flags ∧ u.sp = s.sp)

/-- R201 to R204: the stack instructions, with their encodings. -/
def Obligations.PushAndPullResults : Prop :=
  ∀ (s r : State) (p : Byte), r = { s with pc := BitVec.ofNat 16 (s.pc.toNat + 1) } → p = stackByte s.mem (s.sp + 1) →
    encode .pha = [0x48] ∧
    exec .pha s = .next { r with mem := stackWritten s.mem s.sp s.a, sp := s.sp - 1, clock := s.clockAfter 3 } ∧
    encode .php = [0x08] ∧
    exec .php s = .next { r with mem := stackWritten s.mem s.sp (statusByte s.flags), sp := s.sp - 1, clock := s.clockAfter 3 } ∧
    encode .pla = [0x68] ∧
    exec .pla s = .next { r with a := p, flags := nzFlags s.flags p, sp := s.sp + 1, clock := s.clockAfter 4 } ∧
    encode .plp = [0x28] ∧
    exec .plp s = .next { r with
      sp := s.sp + 1, clock := s.clockAfter 4
      flags := { n := decide (128 ≤ p.toNat), v := decide (64 ≤ p.toNat % 128), d := decide (8 ≤ p.toNat % 16)
                 i := decide (4 ≤ p.toNat % 8), z := decide (2 ≤ p.toNat % 4), c := decide (p.toNat % 2 = 1) } }

/-- R12: which instructions write A, X, Y and S; every other instruction leaves the register as it was. -/
def Obligations.RegisterFrame : Prop :=
  ∀ (i : Instr) (s t : State), exec i s = .next t →
    (i.mnemonic ∉ [Mnemonic.lda, .lax, .txa, .tya, .pla, .adc, .sbc, .and, .ora, .eor, .alr, .slo] → i.operand ≠ .acc →
      t.a = s.a) ∧
    (i.mnemonic ∉ [Mnemonic.ldx, .lax, .tax, .tsx, .inx, .dex, .sbx] → t.x = s.x) ∧
    (i.mnemonic ∉ [Mnemonic.ldy, .tay, .iny, .dey] → t.y = s.y) ∧
    (i.mnemonic ∉ [Mnemonic.txs, .pha, .php, .pla, .plp, .jsr, .rts, .brk, .rti] → t.sp = s.sp)

/-- R20: which instructions write each flag; every other instruction leaves the flag as it was. -/
def Obligations.FlagFrame : Prop :=
  ∀ (i : Instr) (s t : State), exec i s = .next t →
    (i.mnemonic ∈ [Mnemonic.sta, .stx, .sty, .sax, .txs, .pha, .php, .jmp, .jsr, .rts, .nop, .bpl, .bmi, .bvc, .bvs,
      .bcc, .bcs, .bne, .beq] → t.flags = s.flags) ∧
    (i.mnemonic ∈ [Mnemonic.clc, .sec, .cld, .sed, .cli, .sei, .clv, .brk] →
      t.flags.n = s.flags.n ∧ t.flags.z = s.flags.z) ∧
    (i.mnemonic ∉ [Mnemonic.adc, .sbc, .bit, .clv, .plp, .rti] → t.flags.v = s.flags.v) ∧
    (i.mnemonic ∉ [Mnemonic.cld, .sed, .plp, .rti] → t.flags.d = s.flags.d) ∧
    (i.mnemonic ∉ [Mnemonic.cli, .sei, .brk, .plp, .rti] → t.flags.i = s.flags.i) ∧
    (i.mnemonic ∉ [Mnemonic.adc, .sbc, .cmp, .cpx, .cpy, .dcp, .sbx, .asl, .lsr, .rol, .ror, .slo, .alr, .clc, .sec,
      .plp, .rti] → t.flags.c = s.flags.c)

/-- R59, R51, R43: every storage byte that an instruction does not store to reads as before, and a ROM byte reads as
before whatever is stored to it. `storedAddrs` computes the addresses with the addressing unit's `effective`. -/
def Obligations.MemoryFrame : Prop :=
  ∀ (i : Instr) (s t : State), exec i s = .next t → ∀ a : Addr,
    ((∀ b ∈ storedAddrs i s, storageKey b ≠ storageKey a) → t.peek a = s.peek a) ∧
    ∀ o, route a = some (.cart o) → t.peek a = s.peek a

/-- R46, R50, R60, R111: no instruction changes the recorded fault, the launch parameters or the quit signal; one that
makes no data access leaves the TIA and the event trace as they were, and only a decimal ADC or SBC then draws free
values; one that stores to no TIA register changes of the TIA only what the catch-up changes; and `CartState` changes
only by a data access or the vector of BRK, and never with the single-bank cartridge. -/
def Obligations.DeviceFrame : Prop :=
  ∀ (i : Instr) (s t : State), exec i s = .next t →
    (t.fault = s.fault ∧ t.params = s.params ∧ t.quit = s.quit) ∧
    (s.params.cart = .singleBank ∨ accessesData i = false ∧ i.mnemonic ≠ .brk → t.cart = s.cart) ∧
    (accessesData i = false → t.tia = s.tia ∧ t.events = s.events ∧
      (s.flags.d = false ∨ i.mnemonic ∉ [Mnemonic.adc, .sbc] → t.draws = s.draws)) ∧
    ((∀ b ∈ storedAddrs i s, ∀ reg port, route b ≠ some (.tia reg port)) → t.tia = { s.tia with
      line := t.tia.line, latch := t.tia.latch, display := t.tia.display, lastUpdate := t.tia.lastUpdate })

/-- R284, R281: the catch-up is the tick-by-tick loop, catching up in two parts is catching up in one (so painting
eagerly gives the same), and what one tick does. -/
def Obligations.CatchUpIsTickByTick : Prop :=
  ∀ (p : Params) (t : Tia) (c d h l x : Nat),
    t.catchUp p t.lastUpdate = t ∧
    (t.lastUpdate ≤ c → t.catchUp p (c + 1) = { (t.catchUp p c).tick p c with lastUpdate := c + 1 }) ∧
    (t.lastUpdate ≤ c → c ≤ d → (t.catchUp p c).catchUp p d = t.catchUp p d) ∧
    (h = (c - t.screenStart) % 228 → l = (c - t.screenStart) / 228 → x = h - 68 →
      t.tick p c = { t with
        line := if h = 0 then t.snapshot else t.line
        latch := if 68 ≤ h ∧ bitOf t.vblank 1 = false then updateCollisions (t.hits x) t.latch else t.latch
        display := if 68 ≤ h ∧ l < p.frameHeight then
            Display.write t.display (l * 160 + x) (if bitOf t.vblank 1 = true then p.blankColour else composite (t.hits x) t.line)
          else t.display })

/-- R281, R283, R284, R285, R287: the catch-up paints exactly the pixels whose ticks lie between the last update and the
Clock of the access: each takes the colour that the registers and the LineState of its scanline give, and every other
cell is as it was. -/
def Obligations.CatchUpPaintsExactlyThePassedPixels : Prop :=
  ∀ (p : Params) (t : Tia) (now l x tick : Nat), t.screenStart ≤ t.lastUpdate → t.lastUpdate ≤ now →
    l < p.frameHeight → x < 160 → tick = t.screenStart + l * 228 + 68 + x →
    (t.lastUpdate ≤ tick → tick < now → Display.read (t.catchUp p now).display (l * 160 + x) =
      some (if bitOf t.vblank 1 = true then p.blankColour
        else composite (t.hits x) (if t.lastUpdate ≤ t.screenStart + l * 228 then t.snapshot else t.line))) ∧
    (¬(t.lastUpdate ≤ tick ∧ tick < now) →
      Display.read (t.catchUp p now).display (l * 160 + x) = Display.read t.display (l * 160 + x))

/-- R285, R361: LineState takes the live registers when the first tick of a scanline is processed, and only then. -/
def Obligations.LineStateIsOfTheLineStart : Prop :=
  ∀ (p : Params) (t : Tia) (now : Nat),
    ((∃ c, t.lastUpdate ≤ c ∧ c < now ∧ (c - t.screenStart) % 228 = 0) → (t.catchUp p now).line = t.snapshot) ∧
    ((∀ c, t.lastUpdate ≤ c → c < now → (c - t.screenStart) % 228 ≠ 0) → (t.catchUp p now).line = t.line)

/-- R263, R293, R294: the latch bits of one pixel's hits, and the full sweep over the 64 combinations of hits. -/
def Obligations.CollisionLatchBits : Prop :=
  (∀ (h : Hit) (c : Latches), updateCollisions h c = {
    cxmp := ⟨c.cxmp.zero ||| (if h.m0 && h.p1 then 0x80 else 0) ||| (if h.m0 && h.p0 then 0x40 else 0),
             c.cxmp.one ||| (if h.m1 && h.p0 then 0x80 else 0) ||| (if h.m1 && h.p1 then 0x40 else 0)⟩
    cxpfb := ⟨c.cxpfb.zero ||| (if h.p0 && h.pf then 0x80 else 0) ||| (if h.p0 && h.bl then 0x40 else 0),
              c.cxpfb.one ||| (if h.p1 && h.pf then 0x80 else 0) ||| (if h.p1 && h.bl then 0x40 else 0)⟩
    cxmfb := ⟨c.cxmfb.zero ||| (if h.m0 && h.pf then 0x80 else 0) ||| (if h.m0 && h.bl then 0x40 else 0),
              c.cxmfb.one ||| (if h.m1 && h.pf then 0x80 else 0) ||| (if h.m1 && h.bl then 0x40 else 0)⟩
    cxblpf := c.cxblpf ||| (if h.bl && h.pf then 0x80 else 0)
    cxppmm := c.cxppmm ||| (if h.p0 && h.p1 then 0x80 else 0) ||| (if h.m0 && h.m1 then 0x40 else 0) }) ∧
  (List.range 64).foldl (fun c k => updateCollisions
      ⟨k.testBit 0, k.testBit 1, k.testBit 2, k.testBit 3, k.testBit 4, k.testBit 5⟩ c)
    ⟨Pair.zeros, Pair.zeros, Pair.zeros, 0, 0⟩ = ⟨⟨0xC0, 0xC0⟩, ⟨0xC0, 0xC0⟩, ⟨0xC0, 0xC0⟩, 0x80, 0xC0⟩

/-- R286: the colour of a pixel is that of the first object hit in the draw order the priority bit selects, and the
background's where none is hit. -/
def Obligations.CompositeFollowsPriority : Prop :=
  ∀ (h : Hit) (ls : LineState) (field front back : Bool × Byte), field = (h.pf || h.bl, ls.playfieldColor) →
    front = (h.p1 || h.m1, ls.pColor.one) → back = (h.p0 || h.m0, ls.pColor.zero) →
    composite h ls = (((if 4 ≤ ls.ctrlpf.toNat % 8 then [field, front, back] else [front, back, field]).filter
      Prod.fst).map Prod.snd).headD ls.backgroundColor

/-- R288 to R292: the four kinds of object scanline, as the rules place their pixels. -/
def Obligations.ObjectScanlines : Prop :=
  ∀ (t : Tia) (x : Nat), x < 160 →
    (∀ i b, i = x / 4 → b = (if i < 20 then i else if t.ctrlpf.toNat % 2 = 1 then 39 - i else i - 20) →
      t.playfield x = if b < 4 then t.pf0.getLsbD (4 + b) else if b < 12 then t.pf1.getLsbD (11 - b)
        else t.pf2.getLsbD (b - 12)) ∧
    (∀ n k size offsets (g : Byte), k = (t.nusiz.get n).toNat % 8 → size = (if k = 5 then 2 else if k = 7 then 4 else 1) →
      offsets = ([[0], [0, 16], [0, 32], [0, 16, 32], [0, 64], [0], [0, 32, 64], [0]] : List (List Nat)).getD k [] →
      g = (if (t.vdelp.get n).toNat % 2 = 1 then t.grpOld.get n else t.grp.get n) →
      (t.player n x = true ↔ ∃ o ∈ offsets, ∃ j sub, j < 8 ∧ sub < size ∧
        x = (t.resp.get n + o + j * size + sub) % 160 ∧
        g.getLsbD (if (t.refp.get n).getLsbD 3 then j else 7 - j) = true) ∧
      (t.missile n x = true ↔ (t.enam.get n).getLsbD 1 = true ∧ (t.resmp.get n).getLsbD 1 = false ∧
        ∃ o ∈ offsets, ∃ sub, sub < 2 ^ ((t.nusiz.get n).toNat / 16 % 4) ∧ x = (t.resm.get n + o + sub) % 160)) ∧
    (t.ball x = true ↔ (if t.vdelbl.toNat % 2 = 1 then t.enablOld else t.enabl).getLsbD 1 = true ∧
      ∃ sub, sub < 2 ^ (t.ctrlpf.toNat / 16 % 4) ∧ x = (t.resbl + sub) % 228)

/-- R240, R241, R243, R246 to R250, R254 to R261: a write to a register that only keeps its byte, with what GRP0 and GRP1
latch, what HMCLR and CXCLR clear, and the numbers with no register. Each first catches up and then runs the audio hook. -/
def Obligations.TiaRegisterWrites : Prop :=
  ∀ (s : State) (addr : Addr) (port : Nat) (v : Byte) (t : Tia), t = s.tia.catchUp s.params s.clock →
    (route addr = some (.tia 0x01 port) → busWrite addr v s =
      .next { s with tia := { t with vblank := v }, events := .audioStep :: .inputControl v :: s.events }) ∧
    (∀ n : Side, ∀ k : Nat, k = (match n with | .zero => 0 | .one => 1) →
      (route addr = some (.tia (0x04 + k) port) → busWrite addr v s = .next (s.tiaWritten { t with nusiz := t.nusiz.set n v })) ∧
      (route addr = some (.tia (0x06 + k) port) → busWrite addr v s = .next (s.tiaWritten { t with colup := t.colup.set n v })) ∧
      (route addr = some (.tia (0x0B + k) port) → busWrite addr v s = .next (s.tiaWritten { t with refp := t.refp.set n v })) ∧
      (route addr = some (.tia (0x1D + k) port) → busWrite addr v s = .next (s.tiaWritten { t with enam := t.enam.set n v })) ∧
      (route addr = some (.tia (0x20 + k) port) → busWrite addr v s = .next (s.tiaWritten { t with hmp := t.hmp.set n v })) ∧
      (route addr = some (.tia (0x22 + k) port) → busWrite addr v s = .next (s.tiaWritten { t with hmm := t.hmm.set n v })) ∧
      (route addr = some (.tia (0x25 + k) port) → busWrite addr v s = .next (s.tiaWritten { t with vdelp := t.vdelp.set n v })) ∧
      (route addr = some (.tia (0x28 + k) port) → v.toNat % 4 < 2 →
        busWrite addr v s = .next (s.tiaWritten { t with resmp := t.resmp.set n v }))) ∧
    (route addr = some (.tia 0x08 port) → busWrite addr v s = .next (s.tiaWritten { t with colupf := v })) ∧
    (route addr = some (.tia 0x09 port) → busWrite addr v s = .next (s.tiaWritten { t with colubk := v })) ∧
    (route addr = some (.tia 0x0A port) → busWrite addr v s = .next (s.tiaWritten { t with ctrlpf := v })) ∧
    (route addr = some (.tia 0x0D port) → busWrite addr v s = .next (s.tiaWritten { t with pf0 := v })) ∧
    (route addr = some (.tia 0x0E port) → busWrite addr v s = .next (s.tiaWritten { t with pf1 := v })) ∧
    (route addr = some (.tia 0x0F port) → busWrite addr v s = .next (s.tiaWritten { t with pf2 := v })) ∧
    (∀ k, k < 6 → route addr = some (.tia (0x15 + k) port) → busWrite addr v s = .next { s with
      tia := t
      events := .audioStep :: .audioWrite ([AudioPort.ctrl0, .ctrl1, .freq0, .freq1, .vol0, .vol1].getD k .ctrl0) v s.clock ::
        s.events }) ∧
    (route addr = some (.tia 0x1B port) → busWrite addr v s =
      .next (s.tiaWritten { t with grp := ⟨v, t.grp.one⟩, grpOld := ⟨t.grpOld.zero, t.grp.one⟩ })) ∧
    (route addr = some (.tia 0x1C port) → busWrite addr v s = .next (s.tiaWritten { t with
      grp := ⟨t.grp.zero, v⟩, grpOld := ⟨t.grp.zero, t.grpOld.one⟩, enablOld := t.enabl })) ∧
    (route addr = some (.tia 0x1F port) → busWrite addr v s = .next (s.tiaWritten { t with enabl := v })) ∧
    (route addr = some (.tia 0x24 port) → busWrite addr v s = .next (s.tiaWritten { t with hmbl := v })) ∧
    (route addr = some (.tia 0x27 port) → busWrite addr v s = .next (s.tiaWritten { t with vdelbl := v })) ∧
    (route addr = some (.tia 0x2B port) → busWrite addr v s =
      .next (s.tiaWritten { t with hmp := ⟨0, 0⟩, hmm := ⟨0, 0⟩, hmbl := 0 })) ∧
    (route addr = some (.tia 0x2C port) → busWrite addr v s =
      .next (s.tiaWritten { t with latch := ⟨⟨0, 0⟩, ⟨0, 0⟩, ⟨0, 0⟩, 0, 0⟩ })) ∧
    ∀ reg, 0x2D ≤ reg → reg < 0x40 → route addr = some (.tia reg port) → busWrite addr v s = .next (s.tiaWritten t)

/-- R296, R297, R362: a reset strobe sets its object's position from the beam tick `h` of the write. -/
def Obligations.ResetStrobesSetPositions : Prop :=
  ∀ (s : State) (addr : Addr) (port h : Nat) (v : Byte) (t : Tia), t = s.tia.catchUp s.params s.clock →
    h = (s.clock - s.tia.screenStart) % 228 →
    (route addr = some (.tia 0x10 port) → busWrite addr v s = .next (s.tiaWritten { t with
      resp := ⟨if h < 68 then 3 else (h - 68 + s.params.resOffsetP) % 160, t.resp.one⟩ })) ∧
    (route addr = some (.tia 0x11 port) → busWrite addr v s = .next (s.tiaWritten { t with
      resp := ⟨t.resp.zero, if h < 68 then 3 else (h - 68 + s.params.resOffsetP) % 160⟩ })) ∧
    (route addr = some (.tia 0x12 port) → busWrite addr v s = .next (s.tiaWritten { t with
      resm := ⟨if h < 68 then 3 else (h - 68 + s.params.resOffsetMB) % 160, t.resm.one⟩ })) ∧
    (route addr = some (.tia 0x13 port) → busWrite addr v s = .next (s.tiaWritten { t with
      resm := ⟨t.resm.zero, if h < 68 then 3 else (h - 68 + s.params.resOffsetMB) % 160⟩ })) ∧
    (route addr = some (.tia 0x14 port) → busWrite addr v s = .next (s.tiaWritten { t with
      resbl := if h < 68 then 3 else (h - 68 + s.params.resOffsetMB) % 228 }))

/-- R298, R368: HMOVE moves each object left by the signed high nibble of the motion byte that LineState holds, plus 8 in
CPU cycle 73 of the scanline, modulo 160, the ball modulo 228. -/
def Obligations.HmoveMovesByLineState : Prop :=
  ∀ (s : State) (addr : Addr) (port : Nat) (v : Byte) (t : Tia) (extra : Int) (delta : Byte → Int),
    route addr = some (.tia 0x2A port) → t = s.tia.catchUp s.params s.clock →
    extra = (if (s.clock - s.tia.screenStart) % 228 / 3 = 73 then 8 else 0) →
    (∀ m : Byte, delta m = (if m.toNat / 16 < 8 then (m.toNat / 16 : Int) else (m.toNat / 16 : Int) - 16) + extra) →
    busWrite addr v s = .next (s.tiaWritten { t with
      resp := ⟨((t.resp.zero - delta t.line.hmp.zero) % 160).toNat, ((t.resp.one - delta t.line.hmp.one) % 160).toNat⟩
      resm := ⟨((t.resm.zero - delta t.line.hmm.zero) % 160).toNat, ((t.resm.one - delta t.line.hmm.one) % 160).toNat⟩
      resbl := ((t.resbl - delta t.line.hmbl) % 228).toNat })

/-- R301, R244, R363: WSYNC advances the Clock to the next scanline boundary, by 0 when it is on one; it is then on one,
and a second WSYNC at that Clock advances it by 0. -/
def Obligations.WsyncStallsToTheBoundary : Prop :=
  ∀ (s : State) (addr : Addr) (port h : Nat) (v w : Byte), route addr = some (.tia 0x02 port) →
    h = (s.clock - s.tia.screenStart) % 228 →
    ∃ t, busWrite addr v s = .next t ∧
      t = { s.tiaWritten (s.tia.catchUp s.params s.clock) with clock := if h = 0 then s.clock else s.clock + (228 - h) } ∧
      (t.clock - t.tia.screenStart) % 228 = 0 ∧ ∃ u, busWrite addr w t = .next u ∧ u.clock = t.clock

/-- R300, R242: the VSYNC state machine: the flush at the on bit, the new frame origin at the off bit, and otherwise only
the byte. -/
def Obligations.VsyncStateMachine : Prop :=
  ∀ (s : State) (addr : Addr) (port : Nat) (v : Byte) (t : Tia), route addr = some (.tia 0x00 port) →
    t = s.tia.catchUp s.params s.clock →
    (2 ≤ v.toNat % 4 → s.tia.isVsync = false → busWrite addr v s = .next { s with
      tia := { t with vsync := v, isVsync := true }, events := .audioStep :: .displayFlush t.display :: s.events }) ∧
    (v.toNat % 4 < 2 → s.tia.isVsync = true → busWrite addr v s = .next (s.tiaWritten { t with
      vsync := v, isVsync := false, screenStart := s.clock - (s.clock - s.tia.screenStart) % 228 })) ∧
    ((2 ≤ v.toNat % 4 ↔ s.tia.isVsync = true) → busWrite addr v s = .next (s.tiaWritten { t with vsync := v }))

/-- R77, R78, R79, R73: every opcode byte of the matrix decodes to the mnemonic and format the spec gives it, with any
operand bytes, low byte first. -/
def Obligations.OpcodeMatrixDecodes : Prop :=
  ∀ (b1 b2 : Byte) (op : Byte) (i : Instr), (op, i) ∈ opcodeMatrix b1 b2 → ∃ left, decode [op, b1, b2] = .ok (i, left)
end

