-- ==== Sys2Proof/Laws/Memory.lean ====
section
/-! SUPPORT. Memory and Display: a read after a write, and that every write keeps the canonical form. -/

namespace Sys2Proof.Machine

/-- Raising the lower bound is allowed below the first key only, lowering it always is. -/
theorem Memory.wfFrom_mono {lo lo' : Nat} (h : lo' ≤ lo) : ∀ {m : Memory}, Memory.wfFrom lo m = true → Memory.wfFrom lo' m = true
  | [], _ => rfl
  | (k, b) :: m, hw => by
    simp only [Memory.wfFrom, Bool.and_eq_true, decide_eq_true_eq] at hw ⊢
    exact ⟨⟨⟨by omega, hw.1.1.2⟩, hw.1.2⟩, hw.2⟩

/-- A key below the lower bound of a canonical memory is not listed. -/
theorem Memory.read_below {lo a : Nat} (h : a < lo) : ∀ {m : Memory}, Memory.wfFrom lo m = true →
    Memory.read m a = Memory.unlisted
  | [], _ => rfl
  | (k, b) :: m, hw => by
    simp only [Memory.wfFrom, Bool.and_eq_true, decide_eq_true_eq] at hw
    have hk : k ≠ a := by omega
    simp only [Memory.read, hk, if_false]
    exact Memory.read_below (by omega) hw.2

/-- Reading another key is unaffected by a write. -/
theorem Memory.read_write_ne {a k : Nat} (h : k ≠ a) (v : Byte) : ∀ m : Memory,
    Memory.read (Memory.write m a v) k = Memory.read m k
  | [] => by
    simp only [Memory.write]
    split
    · rfl
    · simp [Memory.read, Ne.symm h]
  | (j, b) :: m => by
    simp only [Memory.write]
    split
    · split
      · rfl
      · simp [Memory.read, Ne.symm h]
    · split
      · next hj =>
        subst hj
        split
        · simp [Memory.read, Ne.symm h]
        · simp [Memory.read, Ne.symm h]
      · simp [Memory.read, Memory.read_write_ne h v m]

/-- In a canonical memory a read after a write gives the byte written. -/
theorem Memory.read_write_self {lo a : Nat} (v : Byte) : ∀ {m : Memory}, Memory.wfFrom lo m = true →
    Memory.read (Memory.write m a v) a = v
  | [], _ => by
    simp only [Memory.write]
    split
    · next hv => simp [Memory.read, hv]
    · simp [Memory.read]
  | (k, b) :: m, hw => by
    simp only [Memory.wfFrom, Bool.and_eq_true, decide_eq_true_eq] at hw
    simp only [Memory.write]
    split
    · next hlt =>
      split
      · next hv =>
        have hk : k ≠ a := by omega
        simp only [Memory.read, hk, if_false]
        rw [Memory.read_below (lo := k + 1) (by omega) hw.2, hv]
      · simp [Memory.read]
    · split
      · next hk =>
        subst hk
        split
        · next hv => rw [Memory.read_below (lo := a + 1) (by omega) hw.2, hv]
        · simp [Memory.read]
      · next hk =>
        have hk' : k ≠ a := fun h => hk h.symm
        simp only [Memory.read, hk', if_false]
        exact Memory.read_write_self v hw.2

/-- A write of a storage key keeps the canonical form. -/
theorem Memory.wfFrom_write {lo a : Nat} (v : Byte) (ha : lo ≤ a) (hk : Memory.isKey a = true) :
    ∀ {m : Memory}, Memory.wfFrom lo m = true → Memory.wfFrom lo (Memory.write m a v) = true
  | [], _ => by
    simp only [Memory.write]
    split
    · rfl
    · next hv => simp [Memory.wfFrom, ha, hk, hv]
  | (k, b) :: m, hw => by
    have hw' := hw
    simp only [Memory.wfFrom, Bool.and_eq_true, decide_eq_true_eq] at hw
    simp only [Memory.write]
    split
    · next hlt =>
      split
      · exact hw'
      · next hv =>
        simp only [Memory.wfFrom, Bool.and_eq_true, decide_eq_true_eq, bne_iff_ne, ne_eq]
        exact ⟨⟨⟨ha, hk⟩, hv⟩, ⟨⟨by omega, hw.1.1.2⟩, by simpa using hw.1.2⟩, hw.2⟩
    · next hlt =>
      split
      · next heq =>
        split
        · exact Memory.wfFrom_mono (by omega) hw.2
        · next hv =>
          subst heq
          simp only [Memory.wfFrom, Bool.and_eq_true, decide_eq_true_eq, bne_iff_ne, ne_eq]
          exact ⟨⟨⟨ha, hk⟩, hv⟩, hw.2⟩
      · next hne =>
        simp only [Memory.wfFrom, Bool.and_eq_true, decide_eq_true_eq]
        exact ⟨hw.1, Memory.wfFrom_write v (by omega) hk hw.2⟩

/-- Every write of a storage key keeps the canonical form. -/
theorem Memory.wf_write {m : Memory} {a : Nat} (v : Byte) (hk : Memory.isKey a = true) (h : Memory.wf m = true) :
    Memory.wf (Memory.write m a v) = true := Memory.wfFrom_write v (Nat.zero_le a) hk h

/-- A read after a write to the same key. -/
theorem Memory.read_write {m : Memory} (a : Nat) (v : Byte) (h : Memory.wf m = true) :
    Memory.read (Memory.write m a v) a = v := Memory.read_write_self v h

/-- `RAM[i]` and `ROM[o]` have storage keys. -/
theorem Memory.isKey_ram {i : Nat} (h : i < 0x80) : Memory.isKey (ramKey i) = true := by
  unfold Memory.isKey ramKey; simp; omega

theorem Memory.isKey_rom {o : Nat} (h : o < 0x1000) : Memory.isKey (romKey o) = true := by
  unfold Memory.isKey romKey; simp; omega

/-- Painting keeps the Display's canonical form. -/
theorem Display.wfFrom_mono {n lo lo' : Nat} (h : lo' ≤ lo) :
    ∀ {d : Display}, Display.wfFrom n lo d = true → Display.wfFrom n lo' d = true
  | [], _ => rfl
  | (k, b) :: d, hw => by
    simp only [Display.wfFrom, Bool.and_eq_true, decide_eq_true_eq] at hw ⊢
    exact ⟨⟨by omega, hw.1.2⟩, hw.2⟩

theorem Display.wfFrom_write {n lo a : Nat} (v : Byte) (ha : lo ≤ a) (hn : a < n) :
    ∀ {d : Display}, Display.wfFrom n lo d = true → Display.wfFrom n lo (Display.write d a v) = true
  | [], _ => by simp [Display.write, Display.wfFrom, ha, hn]
  | (k, b) :: d, hw => by
    simp only [Display.wfFrom, Bool.and_eq_true, decide_eq_true_eq] at hw
    simp only [Display.write]
    split
    · simp only [Display.wfFrom, Bool.and_eq_true, decide_eq_true_eq]
      exact ⟨⟨ha, hn⟩, ⟨by omega, hw.1.2⟩, hw.2⟩
    · split
      · next heq =>
        subst heq
        simp only [Display.wfFrom, Bool.and_eq_true, decide_eq_true_eq]
        exact ⟨⟨ha, hn⟩, hw.2⟩
      · simp only [Display.wfFrom, Bool.and_eq_true, decide_eq_true_eq]
        exact ⟨hw.1, Display.wfFrom_write v (by omega) hn hw.2⟩

/-- The painted cell reads as painted, whatever was there. -/
theorem Display.read_write_self (a : Nat) (v : Byte) : ∀ d : Display, Display.read (Display.write d a v) a = some v
  | [] => by simp [Display.write, Display.read]
  | (k, b) :: d => by
    simp only [Display.write]
    split
    · simp [Display.read]
    · split
      · simp [Display.read]
      · next hne => simp [Display.read, Ne.symm hne, Display.read_write_self a v d]

/-- Painting one cell leaves every other cell as it was. -/
theorem Display.read_write_ne {a k : Nat} (h : k ≠ a) (v : Byte) : ∀ d : Display,
    Display.read (Display.write d a v) k = Display.read d k
  | [] => by simp [Display.write, Display.read, Ne.symm h]
  | (j, b) :: d => by
    simp only [Display.write]
    split
    · simp [Display.read, Ne.symm h]
    · split
      · next heq => simp [Display.read, ← heq, Ne.symm h]
      · simp [Display.read, Display.read_write_ne h v d]

end Sys2Proof.Machine
end

