-- ==== Sys2Proof/Laws/State.lean ====
section
/-! SUPPORT. One lemma per field of State per elementary update, so that no later proof unfolds a record update. -/

namespace Sys2Proof.Machine

variable (s : State)

@[simp] theorem State.setA_a (v : Byte) : (s.setA v).a = v := rfl
@[simp] theorem State.setA_x (v : Byte) : (s.setA v).x = s.x := rfl
@[simp] theorem State.setA_y (v : Byte) : (s.setA v).y = s.y := rfl
@[simp] theorem State.setA_sp (v : Byte) : (s.setA v).sp = s.sp := rfl
@[simp] theorem State.setA_pc (v : Byte) : (s.setA v).pc = s.pc := rfl
@[simp] theorem State.setA_flags (v : Byte) : (s.setA v).flags = s.flags := rfl
@[simp] theorem State.setA_clock (v : Byte) : (s.setA v).clock = s.clock := rfl
@[simp] theorem State.setA_mem (v : Byte) : (s.setA v).mem = s.mem := rfl
@[simp] theorem State.setA_cart (v : Byte) : (s.setA v).cart = s.cart := rfl
@[simp] theorem State.setA_tia (v : Byte) : (s.setA v).tia = s.tia := rfl
@[simp] theorem State.setA_fault (v : Byte) : (s.setA v).fault = s.fault := rfl
@[simp] theorem State.setA_params (v : Byte) : (s.setA v).params = s.params := rfl
@[simp] theorem State.setA_quit (v : Byte) : (s.setA v).quit = s.quit := rfl
@[simp] theorem State.setA_draws (v : Byte) : (s.setA v).draws = s.draws := rfl
@[simp] theorem State.setA_events (v : Byte) : (s.setA v).events = s.events := rfl

@[simp] theorem State.setX_a (v : Byte) : (s.setX v).a = s.a := rfl
@[simp] theorem State.setX_x (v : Byte) : (s.setX v).x = v := rfl
@[simp] theorem State.setX_y (v : Byte) : (s.setX v).y = s.y := rfl
@[simp] theorem State.setX_sp (v : Byte) : (s.setX v).sp = s.sp := rfl
@[simp] theorem State.setX_pc (v : Byte) : (s.setX v).pc = s.pc := rfl
@[simp] theorem State.setX_flags (v : Byte) : (s.setX v).flags = s.flags := rfl
@[simp] theorem State.setX_clock (v : Byte) : (s.setX v).clock = s.clock := rfl
@[simp] theorem State.setX_mem (v : Byte) : (s.setX v).mem = s.mem := rfl
@[simp] theorem State.setX_cart (v : Byte) : (s.setX v).cart = s.cart := rfl
@[simp] theorem State.setX_tia (v : Byte) : (s.setX v).tia = s.tia := rfl
@[simp] theorem State.setX_fault (v : Byte) : (s.setX v).fault = s.fault := rfl
@[simp] theorem State.setX_params (v : Byte) : (s.setX v).params = s.params := rfl
@[simp] theorem State.setX_quit (v : Byte) : (s.setX v).quit = s.quit := rfl
@[simp] theorem State.setX_draws (v : Byte) : (s.setX v).draws = s.draws := rfl
@[simp] theorem State.setX_events (v : Byte) : (s.setX v).events = s.events := rfl

@[simp] theorem State.setY_a (v : Byte) : (s.setY v).a = s.a := rfl
@[simp] theorem State.setY_x (v : Byte) : (s.setY v).x = s.x := rfl
@[simp] theorem State.setY_y (v : Byte) : (s.setY v).y = v := rfl
@[simp] theorem State.setY_sp (v : Byte) : (s.setY v).sp = s.sp := rfl
@[simp] theorem State.setY_pc (v : Byte) : (s.setY v).pc = s.pc := rfl
@[simp] theorem State.setY_flags (v : Byte) : (s.setY v).flags = s.flags := rfl
@[simp] theorem State.setY_clock (v : Byte) : (s.setY v).clock = s.clock := rfl
@[simp] theorem State.setY_mem (v : Byte) : (s.setY v).mem = s.mem := rfl
@[simp] theorem State.setY_cart (v : Byte) : (s.setY v).cart = s.cart := rfl
@[simp] theorem State.setY_tia (v : Byte) : (s.setY v).tia = s.tia := rfl
@[simp] theorem State.setY_fault (v : Byte) : (s.setY v).fault = s.fault := rfl
@[simp] theorem State.setY_params (v : Byte) : (s.setY v).params = s.params := rfl
@[simp] theorem State.setY_quit (v : Byte) : (s.setY v).quit = s.quit := rfl
@[simp] theorem State.setY_draws (v : Byte) : (s.setY v).draws = s.draws := rfl
@[simp] theorem State.setY_events (v : Byte) : (s.setY v).events = s.events := rfl

@[simp] theorem State.setSp_a (v : Byte) : (s.setSp v).a = s.a := rfl
@[simp] theorem State.setSp_x (v : Byte) : (s.setSp v).x = s.x := rfl
@[simp] theorem State.setSp_y (v : Byte) : (s.setSp v).y = s.y := rfl
@[simp] theorem State.setSp_sp (v : Byte) : (s.setSp v).sp = v := rfl
@[simp] theorem State.setSp_pc (v : Byte) : (s.setSp v).pc = s.pc := rfl
@[simp] theorem State.setSp_flags (v : Byte) : (s.setSp v).flags = s.flags := rfl
@[simp] theorem State.setSp_clock (v : Byte) : (s.setSp v).clock = s.clock := rfl
@[simp] theorem State.setSp_mem (v : Byte) : (s.setSp v).mem = s.mem := rfl
@[simp] theorem State.setSp_cart (v : Byte) : (s.setSp v).cart = s.cart := rfl
@[simp] theorem State.setSp_tia (v : Byte) : (s.setSp v).tia = s.tia := rfl
@[simp] theorem State.setSp_fault (v : Byte) : (s.setSp v).fault = s.fault := rfl
@[simp] theorem State.setSp_params (v : Byte) : (s.setSp v).params = s.params := rfl
@[simp] theorem State.setSp_quit (v : Byte) : (s.setSp v).quit = s.quit := rfl
@[simp] theorem State.setSp_draws (v : Byte) : (s.setSp v).draws = s.draws := rfl
@[simp] theorem State.setSp_events (v : Byte) : (s.setSp v).events = s.events := rfl

@[simp] theorem State.setPc_a (v : Addr) : (s.setPc v).a = s.a := rfl
@[simp] theorem State.setPc_x (v : Addr) : (s.setPc v).x = s.x := rfl
@[simp] theorem State.setPc_y (v : Addr) : (s.setPc v).y = s.y := rfl
@[simp] theorem State.setPc_sp (v : Addr) : (s.setPc v).sp = s.sp := rfl
@[simp] theorem State.setPc_pc (v : Addr) : (s.setPc v).pc = v := rfl
@[simp] theorem State.setPc_flags (v : Addr) : (s.setPc v).flags = s.flags := rfl
@[simp] theorem State.setPc_clock (v : Addr) : (s.setPc v).clock = s.clock := rfl
@[simp] theorem State.setPc_mem (v : Addr) : (s.setPc v).mem = s.mem := rfl
@[simp] theorem State.setPc_cart (v : Addr) : (s.setPc v).cart = s.cart := rfl
@[simp] theorem State.setPc_tia (v : Addr) : (s.setPc v).tia = s.tia := rfl
@[simp] theorem State.setPc_fault (v : Addr) : (s.setPc v).fault = s.fault := rfl
@[simp] theorem State.setPc_params (v : Addr) : (s.setPc v).params = s.params := rfl
@[simp] theorem State.setPc_quit (v : Addr) : (s.setPc v).quit = s.quit := rfl
@[simp] theorem State.setPc_draws (v : Addr) : (s.setPc v).draws = s.draws := rfl
@[simp] theorem State.setPc_events (v : Addr) : (s.setPc v).events = s.events := rfl

@[simp] theorem State.setFlags_a (v : Flags) : (s.setFlags v).a = s.a := rfl
@[simp] theorem State.setFlags_x (v : Flags) : (s.setFlags v).x = s.x := rfl
@[simp] theorem State.setFlags_y (v : Flags) : (s.setFlags v).y = s.y := rfl
@[simp] theorem State.setFlags_sp (v : Flags) : (s.setFlags v).sp = s.sp := rfl
@[simp] theorem State.setFlags_pc (v : Flags) : (s.setFlags v).pc = s.pc := rfl
@[simp] theorem State.setFlags_flags (v : Flags) : (s.setFlags v).flags = v := rfl
@[simp] theorem State.setFlags_clock (v : Flags) : (s.setFlags v).clock = s.clock := rfl
@[simp] theorem State.setFlags_mem (v : Flags) : (s.setFlags v).mem = s.mem := rfl
@[simp] theorem State.setFlags_cart (v : Flags) : (s.setFlags v).cart = s.cart := rfl
@[simp] theorem State.setFlags_tia (v : Flags) : (s.setFlags v).tia = s.tia := rfl
@[simp] theorem State.setFlags_fault (v : Flags) : (s.setFlags v).fault = s.fault := rfl
@[simp] theorem State.setFlags_params (v : Flags) : (s.setFlags v).params = s.params := rfl
@[simp] theorem State.setFlags_quit (v : Flags) : (s.setFlags v).quit = s.quit := rfl
@[simp] theorem State.setFlags_draws (v : Flags) : (s.setFlags v).draws = s.draws := rfl
@[simp] theorem State.setFlags_events (v : Flags) : (s.setFlags v).events = s.events := rfl

@[simp] theorem State.setMem_a (v : Memory) : (s.setMem v).a = s.a := rfl
@[simp] theorem State.setMem_x (v : Memory) : (s.setMem v).x = s.x := rfl
@[simp] theorem State.setMem_y (v : Memory) : (s.setMem v).y = s.y := rfl
@[simp] theorem State.setMem_sp (v : Memory) : (s.setMem v).sp = s.sp := rfl
@[simp] theorem State.setMem_pc (v : Memory) : (s.setMem v).pc = s.pc := rfl
@[simp] theorem State.setMem_flags (v : Memory) : (s.setMem v).flags = s.flags := rfl
@[simp] theorem State.setMem_clock (v : Memory) : (s.setMem v).clock = s.clock := rfl
@[simp] theorem State.setMem_mem (v : Memory) : (s.setMem v).mem = v := rfl
@[simp] theorem State.setMem_cart (v : Memory) : (s.setMem v).cart = s.cart := rfl
@[simp] theorem State.setMem_tia (v : Memory) : (s.setMem v).tia = s.tia := rfl
@[simp] theorem State.setMem_fault (v : Memory) : (s.setMem v).fault = s.fault := rfl
@[simp] theorem State.setMem_params (v : Memory) : (s.setMem v).params = s.params := rfl
@[simp] theorem State.setMem_quit (v : Memory) : (s.setMem v).quit = s.quit := rfl
@[simp] theorem State.setMem_draws (v : Memory) : (s.setMem v).draws = s.draws := rfl
@[simp] theorem State.setMem_events (v : Memory) : (s.setMem v).events = s.events := rfl

@[simp] theorem State.setTia_a (v : Tia) : (s.setTia v).a = s.a := rfl
@[simp] theorem State.setTia_x (v : Tia) : (s.setTia v).x = s.x := rfl
@[simp] theorem State.setTia_y (v : Tia) : (s.setTia v).y = s.y := rfl
@[simp] theorem State.setTia_sp (v : Tia) : (s.setTia v).sp = s.sp := rfl
@[simp] theorem State.setTia_pc (v : Tia) : (s.setTia v).pc = s.pc := rfl
@[simp] theorem State.setTia_flags (v : Tia) : (s.setTia v).flags = s.flags := rfl
@[simp] theorem State.setTia_clock (v : Tia) : (s.setTia v).clock = s.clock := rfl
@[simp] theorem State.setTia_mem (v : Tia) : (s.setTia v).mem = s.mem := rfl
@[simp] theorem State.setTia_cart (v : Tia) : (s.setTia v).cart = s.cart := rfl
@[simp] theorem State.setTia_tia (v : Tia) : (s.setTia v).tia = v := rfl
@[simp] theorem State.setTia_fault (v : Tia) : (s.setTia v).fault = s.fault := rfl
@[simp] theorem State.setTia_params (v : Tia) : (s.setTia v).params = s.params := rfl
@[simp] theorem State.setTia_quit (v : Tia) : (s.setTia v).quit = s.quit := rfl
@[simp] theorem State.setTia_draws (v : Tia) : (s.setTia v).draws = s.draws := rfl
@[simp] theorem State.setTia_events (v : Tia) : (s.setTia v).events = s.events := rfl

@[simp] theorem State.setClock_a (v : Nat) : (s.setClock v).a = s.a := rfl
@[simp] theorem State.setClock_x (v : Nat) : (s.setClock v).x = s.x := rfl
@[simp] theorem State.setClock_y (v : Nat) : (s.setClock v).y = s.y := rfl
@[simp] theorem State.setClock_sp (v : Nat) : (s.setClock v).sp = s.sp := rfl
@[simp] theorem State.setClock_pc (v : Nat) : (s.setClock v).pc = s.pc := rfl
@[simp] theorem State.setClock_flags (v : Nat) : (s.setClock v).flags = s.flags := rfl
@[simp] theorem State.setClock_clock (v : Nat) : (s.setClock v).clock = v := rfl
@[simp] theorem State.setClock_mem (v : Nat) : (s.setClock v).mem = s.mem := rfl
@[simp] theorem State.setClock_cart (v : Nat) : (s.setClock v).cart = s.cart := rfl
@[simp] theorem State.setClock_tia (v : Nat) : (s.setClock v).tia = s.tia := rfl
@[simp] theorem State.setClock_fault (v : Nat) : (s.setClock v).fault = s.fault := rfl
@[simp] theorem State.setClock_params (v : Nat) : (s.setClock v).params = s.params := rfl
@[simp] theorem State.setClock_quit (v : Nat) : (s.setClock v).quit = s.quit := rfl
@[simp] theorem State.setClock_draws (v : Nat) : (s.setClock v).draws = s.draws := rfl
@[simp] theorem State.setClock_events (v : Nat) : (s.setClock v).events = s.events := rfl

@[simp] theorem State.setCart_a (v : CartState) : (s.setCart v).a = s.a := rfl
@[simp] theorem State.setCart_x (v : CartState) : (s.setCart v).x = s.x := rfl
@[simp] theorem State.setCart_y (v : CartState) : (s.setCart v).y = s.y := rfl
@[simp] theorem State.setCart_sp (v : CartState) : (s.setCart v).sp = s.sp := rfl
@[simp] theorem State.setCart_pc (v : CartState) : (s.setCart v).pc = s.pc := rfl
@[simp] theorem State.setCart_flags (v : CartState) : (s.setCart v).flags = s.flags := rfl
@[simp] theorem State.setCart_clock (v : CartState) : (s.setCart v).clock = s.clock := rfl
@[simp] theorem State.setCart_mem (v : CartState) : (s.setCart v).mem = s.mem := rfl
@[simp] theorem State.setCart_cart (v : CartState) : (s.setCart v).cart = v := rfl
@[simp] theorem State.setCart_tia (v : CartState) : (s.setCart v).tia = s.tia := rfl
@[simp] theorem State.setCart_fault (v : CartState) : (s.setCart v).fault = s.fault := rfl
@[simp] theorem State.setCart_params (v : CartState) : (s.setCart v).params = s.params := rfl
@[simp] theorem State.setCart_quit (v : CartState) : (s.setCart v).quit = s.quit := rfl
@[simp] theorem State.setCart_draws (v : CartState) : (s.setCart v).draws = s.draws := rfl
@[simp] theorem State.setCart_events (v : CartState) : (s.setCart v).events = s.events := rfl

@[simp] theorem State.emit_a (e : Event) : (s.emit e).a = s.a := rfl
@[simp] theorem State.emit_x (e : Event) : (s.emit e).x = s.x := rfl
@[simp] theorem State.emit_y (e : Event) : (s.emit e).y = s.y := rfl
@[simp] theorem State.emit_sp (e : Event) : (s.emit e).sp = s.sp := rfl
@[simp] theorem State.emit_pc (e : Event) : (s.emit e).pc = s.pc := rfl
@[simp] theorem State.emit_flags (e : Event) : (s.emit e).flags = s.flags := rfl
@[simp] theorem State.emit_clock (e : Event) : (s.emit e).clock = s.clock := rfl
@[simp] theorem State.emit_mem (e : Event) : (s.emit e).mem = s.mem := rfl
@[simp] theorem State.emit_cart (e : Event) : (s.emit e).cart = s.cart := rfl
@[simp] theorem State.emit_tia (e : Event) : (s.emit e).tia = s.tia := rfl
@[simp] theorem State.emit_fault (e : Event) : (s.emit e).fault = s.fault := rfl
@[simp] theorem State.emit_params (e : Event) : (s.emit e).params = s.params := rfl
@[simp] theorem State.emit_quit (e : Event) : (s.emit e).quit = s.quit := rfl
@[simp] theorem State.emit_draws (e : Event) : (s.emit e).draws = s.draws := rfl
@[simp] theorem State.emit_events (e : Event) : (s.emit e).events = e :: s.events := rfl

@[simp] theorem State.drew_a (n : Nat) : (s.drew n).a = s.a := rfl
@[simp] theorem State.drew_x (n : Nat) : (s.drew n).x = s.x := rfl
@[simp] theorem State.drew_y (n : Nat) : (s.drew n).y = s.y := rfl
@[simp] theorem State.drew_sp (n : Nat) : (s.drew n).sp = s.sp := rfl
@[simp] theorem State.drew_pc (n : Nat) : (s.drew n).pc = s.pc := rfl
@[simp] theorem State.drew_flags (n : Nat) : (s.drew n).flags = s.flags := rfl
@[simp] theorem State.drew_clock (n : Nat) : (s.drew n).clock = s.clock := rfl
@[simp] theorem State.drew_mem (n : Nat) : (s.drew n).mem = s.mem := rfl
@[simp] theorem State.drew_cart (n : Nat) : (s.drew n).cart = s.cart := rfl
@[simp] theorem State.drew_tia (n : Nat) : (s.drew n).tia = s.tia := rfl
@[simp] theorem State.drew_fault (n : Nat) : (s.drew n).fault = s.fault := rfl
@[simp] theorem State.drew_params (n : Nat) : (s.drew n).params = s.params := rfl
@[simp] theorem State.drew_quit (n : Nat) : (s.drew n).quit = s.quit := rfl
@[simp] theorem State.drew_draws (n : Nat) : (s.drew n).draws = s.draws + n := rfl
@[simp] theorem State.drew_events (n : Nat) : (s.drew n).events = s.events := rfl

@[simp] theorem State.charge_a (n : Nat) : (s.charge n).a = s.a := rfl
@[simp] theorem State.charge_x (n : Nat) : (s.charge n).x = s.x := rfl
@[simp] theorem State.charge_y (n : Nat) : (s.charge n).y = s.y := rfl
@[simp] theorem State.charge_sp (n : Nat) : (s.charge n).sp = s.sp := rfl
@[simp] theorem State.charge_pc (n : Nat) : (s.charge n).pc = s.pc := rfl
@[simp] theorem State.charge_flags (n : Nat) : (s.charge n).flags = s.flags := rfl
@[simp] theorem State.charge_clock (n : Nat) : (s.charge n).clock = s.clockAfter n := rfl
@[simp] theorem State.charge_mem (n : Nat) : (s.charge n).mem = s.mem := rfl
@[simp] theorem State.charge_cart (n : Nat) : (s.charge n).cart = s.cart := rfl
@[simp] theorem State.charge_tia (n : Nat) : (s.charge n).tia = s.tia := rfl
@[simp] theorem State.charge_fault (n : Nat) : (s.charge n).fault = s.fault := rfl
@[simp] theorem State.charge_params (n : Nat) : (s.charge n).params = s.params := rfl
@[simp] theorem State.charge_quit (n : Nat) : (s.charge n).quit = s.quit := rfl
@[simp] theorem State.charge_draws (n : Nat) : (s.charge n).draws = s.draws := rfl
@[simp] theorem State.charge_events (n : Nat) : (s.charge n).events = s.events := rfl

@[simp] theorem State.advance_a (n : Nat) : (s.advance n).a = s.a := rfl
@[simp] theorem State.advance_x (n : Nat) : (s.advance n).x = s.x := rfl
@[simp] theorem State.advance_y (n : Nat) : (s.advance n).y = s.y := rfl
@[simp] theorem State.advance_sp (n : Nat) : (s.advance n).sp = s.sp := rfl
@[simp] theorem State.advance_pc (n : Nat) : (s.advance n).pc = s.pc + 1 + BitVec.ofNat 16 n := rfl
@[simp] theorem State.advance_flags (n : Nat) : (s.advance n).flags = s.flags := rfl
@[simp] theorem State.advance_clock (n : Nat) : (s.advance n).clock = s.clock := rfl
@[simp] theorem State.advance_mem (n : Nat) : (s.advance n).mem = s.mem := rfl
@[simp] theorem State.advance_cart (n : Nat) : (s.advance n).cart = s.cart := rfl
@[simp] theorem State.advance_tia (n : Nat) : (s.advance n).tia = s.tia := rfl
@[simp] theorem State.advance_fault (n : Nat) : (s.advance n).fault = s.fault := rfl
@[simp] theorem State.advance_params (n : Nat) : (s.advance n).params = s.params := rfl
@[simp] theorem State.advance_quit (n : Nat) : (s.advance n).quit = s.quit := rfl
@[simp] theorem State.advance_draws (n : Nat) : (s.advance n).draws = s.draws := rfl
@[simp] theorem State.advance_events (n : Nat) : (s.advance n).events = s.events := rfl

@[simp] theorem State.catchUp_a : s.catchUp.a = s.a := rfl
@[simp] theorem State.catchUp_x : s.catchUp.x = s.x := rfl
@[simp] theorem State.catchUp_y : s.catchUp.y = s.y := rfl
@[simp] theorem State.catchUp_sp : s.catchUp.sp = s.sp := rfl
@[simp] theorem State.catchUp_pc : s.catchUp.pc = s.pc := rfl
@[simp] theorem State.catchUp_flags : s.catchUp.flags = s.flags := rfl
@[simp] theorem State.catchUp_clock : s.catchUp.clock = s.clock := rfl
@[simp] theorem State.catchUp_mem : s.catchUp.mem = s.mem := rfl
@[simp] theorem State.catchUp_cart : s.catchUp.cart = s.cart := rfl
@[simp] theorem State.catchUp_tia : s.catchUp.tia = s.tia.catchUp s.params s.clock := rfl
@[simp] theorem State.catchUp_fault : s.catchUp.fault = s.fault := rfl
@[simp] theorem State.catchUp_params : s.catchUp.params = s.params := rfl
@[simp] theorem State.catchUp_quit : s.catchUp.quit = s.quit := rfl
@[simp] theorem State.catchUp_draws : s.catchUp.draws = s.draws := rfl
@[simp] theorem State.catchUp_events : s.catchUp.events = s.events := rfl

@[simp] theorem State.audioStep_a : s.audioStep.a = s.a := rfl
@[simp] theorem State.audioStep_x : s.audioStep.x = s.x := rfl
@[simp] theorem State.audioStep_y : s.audioStep.y = s.y := rfl
@[simp] theorem State.audioStep_sp : s.audioStep.sp = s.sp := rfl
@[simp] theorem State.audioStep_pc : s.audioStep.pc = s.pc := rfl
@[simp] theorem State.audioStep_flags : s.audioStep.flags = s.flags := rfl
@[simp] theorem State.audioStep_clock : s.audioStep.clock = s.clock := rfl
@[simp] theorem State.audioStep_mem : s.audioStep.mem = s.mem := rfl
@[simp] theorem State.audioStep_cart : s.audioStep.cart = s.cart := rfl
@[simp] theorem State.audioStep_tia : s.audioStep.tia = s.tia := rfl
@[simp] theorem State.audioStep_fault : s.audioStep.fault = s.fault := rfl
@[simp] theorem State.audioStep_params : s.audioStep.params = s.params := rfl
@[simp] theorem State.audioStep_quit : s.audioStep.quit = s.quit := rfl
@[simp] theorem State.audioStep_draws : s.audioStep.draws = s.draws := rfl
@[simp] theorem State.audioStep_events : s.audioStep.events = .audioStep :: s.events := rfl

@[simp] theorem State.loadA_a (v : Byte) : (s.loadA v).a = v := rfl
@[simp] theorem State.loadA_x (v : Byte) : (s.loadA v).x = s.x := rfl
@[simp] theorem State.loadA_y (v : Byte) : (s.loadA v).y = s.y := rfl
@[simp] theorem State.loadA_sp (v : Byte) : (s.loadA v).sp = s.sp := rfl
@[simp] theorem State.loadA_pc (v : Byte) : (s.loadA v).pc = s.pc := rfl
@[simp] theorem State.loadA_flags (v : Byte) : (s.loadA v).flags = s.flags.setNZ v := rfl
@[simp] theorem State.loadA_clock (v : Byte) : (s.loadA v).clock = s.clock := rfl
@[simp] theorem State.loadA_mem (v : Byte) : (s.loadA v).mem = s.mem := rfl
@[simp] theorem State.loadA_cart (v : Byte) : (s.loadA v).cart = s.cart := rfl
@[simp] theorem State.loadA_tia (v : Byte) : (s.loadA v).tia = s.tia := rfl
@[simp] theorem State.loadA_fault (v : Byte) : (s.loadA v).fault = s.fault := rfl
@[simp] theorem State.loadA_params (v : Byte) : (s.loadA v).params = s.params := rfl
@[simp] theorem State.loadA_quit (v : Byte) : (s.loadA v).quit = s.quit := rfl
@[simp] theorem State.loadA_draws (v : Byte) : (s.loadA v).draws = s.draws := rfl
@[simp] theorem State.loadA_events (v : Byte) : (s.loadA v).events = s.events := rfl

@[simp] theorem State.loadX_a (v : Byte) : (s.loadX v).a = s.a := rfl
@[simp] theorem State.loadX_x (v : Byte) : (s.loadX v).x = v := rfl
@[simp] theorem State.loadX_y (v : Byte) : (s.loadX v).y = s.y := rfl
@[simp] theorem State.loadX_sp (v : Byte) : (s.loadX v).sp = s.sp := rfl
@[simp] theorem State.loadX_pc (v : Byte) : (s.loadX v).pc = s.pc := rfl
@[simp] theorem State.loadX_flags (v : Byte) : (s.loadX v).flags = s.flags.setNZ v := rfl
@[simp] theorem State.loadX_clock (v : Byte) : (s.loadX v).clock = s.clock := rfl
@[simp] theorem State.loadX_mem (v : Byte) : (s.loadX v).mem = s.mem := rfl
@[simp] theorem State.loadX_cart (v : Byte) : (s.loadX v).cart = s.cart := rfl
@[simp] theorem State.loadX_tia (v : Byte) : (s.loadX v).tia = s.tia := rfl
@[simp] theorem State.loadX_fault (v : Byte) : (s.loadX v).fault = s.fault := rfl
@[simp] theorem State.loadX_params (v : Byte) : (s.loadX v).params = s.params := rfl
@[simp] theorem State.loadX_quit (v : Byte) : (s.loadX v).quit = s.quit := rfl
@[simp] theorem State.loadX_draws (v : Byte) : (s.loadX v).draws = s.draws := rfl
@[simp] theorem State.loadX_events (v : Byte) : (s.loadX v).events = s.events := rfl

@[simp] theorem State.loadY_a (v : Byte) : (s.loadY v).a = s.a := rfl
@[simp] theorem State.loadY_x (v : Byte) : (s.loadY v).x = s.x := rfl
@[simp] theorem State.loadY_y (v : Byte) : (s.loadY v).y = v := rfl
@[simp] theorem State.loadY_sp (v : Byte) : (s.loadY v).sp = s.sp := rfl
@[simp] theorem State.loadY_pc (v : Byte) : (s.loadY v).pc = s.pc := rfl
@[simp] theorem State.loadY_flags (v : Byte) : (s.loadY v).flags = s.flags.setNZ v := rfl
@[simp] theorem State.loadY_clock (v : Byte) : (s.loadY v).clock = s.clock := rfl
@[simp] theorem State.loadY_mem (v : Byte) : (s.loadY v).mem = s.mem := rfl
@[simp] theorem State.loadY_cart (v : Byte) : (s.loadY v).cart = s.cart := rfl
@[simp] theorem State.loadY_tia (v : Byte) : (s.loadY v).tia = s.tia := rfl
@[simp] theorem State.loadY_fault (v : Byte) : (s.loadY v).fault = s.fault := rfl
@[simp] theorem State.loadY_params (v : Byte) : (s.loadY v).params = s.params := rfl
@[simp] theorem State.loadY_quit (v : Byte) : (s.loadY v).quit = s.quit := rfl
@[simp] theorem State.loadY_draws (v : Byte) : (s.loadY v).draws = s.draws := rfl
@[simp] theorem State.loadY_events (v : Byte) : (s.loadY v).events = s.events := rfl

/-- The Clock after two charges. -/
@[simp] theorem State.clockAfter_charge (m n : Nat) : (s.charge m).clockAfter n = s.clockAfter (m + n) := by
  simp only [State.clockAfter, State.charge, State.setClock, Nat.add_mul, Nat.add_assoc]

@[simp] theorem State.clockAfter_zero : s.clockAfter 0 = s.clock := by simp [State.clockAfter]

/-- Charging never moves the Clock back. -/
theorem State.le_clockAfter (n : Nat) : s.clock ≤ s.clockAfter n := Nat.le_add_right _ _

@[simp] theorem andThen_next {α β : Type} (a : α) (f : α → Result β) : andThen (.next a) f = f a := rfl
@[simp] theorem andThen_fault {α β : Type} (r : Fault) (f : α → Result β) :
    andThen (.fault r : Result α) f = .fault r := rfl
@[simp] theorem andThen_refused {α β : Type} (r : Refusal) (f : α → Result β) :
    andThen (.refused r : Result α) f = .refused r := rfl

/-- A sequence answers only if both parts do. -/
theorem andThen_eq_next {α β : Type} {o : Result α} {f : α → Result β} {b : β} (h : andThen o f = .next b) :
    ∃ a, o = .next a ∧ f a = .next b := by
  cases o with
  | next a => exact ⟨a, rfl, h⟩
  | fault r => cases h
  | refused r => cases h

end Sys2Proof.Machine
end

