-- ==== Sys2Proof/Laws/Tia.lean ====
section
/-! SUPPORT. The TIA: what the catch-up changes, and that every register access keeps the invariant. -/

namespace Sys2Proof.Machine

@[simp] theorem Pair.get_set_self {α : Type} (p : Pair α) (n : Side) (v : α) : (p.set n v).get n = v := by
  cases n <;> rfl

@[simp] theorem Pair.get_set_other {α : Type} (p : Pair α) (n : Side) (v : α) :
    (p.set n v).get n.other = p.get n.other := by cases n <;> rfl

/-- A property of both elements survives a write that has it. -/
theorem Pair.set_both {α : Type} {P : α → Prop} {p : Pair α} {v : α} (n : Side) (h : P p.zero ∧ P p.one) (hv : P v) :
    P (p.set n v).zero ∧ P (p.set n v).one := by
  cases n
  · exact ⟨hv, h.2⟩
  · exact ⟨h.1, hv⟩

/-- What the catch-up never touches: everything but LineState, the latches, the Display and `lastUpdate`. -/
def Tia.SameRegs (t u : Tia) : Prop :=
  u = { t with line := u.line, latch := u.latch, display := u.display, lastUpdate := u.lastUpdate }

theorem Tia.SameRegs.refl (t : Tia) : t.SameRegs t := rfl

theorem Tia.SameRegs.trans {t u w : Tia} (h : t.SameRegs u) (h' : u.SameRegs w) : t.SameRegs w := by
  unfold Tia.SameRegs at *
  rw [h] at h'
  exact h'

theorem Tia.sameRegs_tick (p : Params) (clock : Nat) (t : Tia) : t.SameRegs (t.tick p clock) := by
  unfold Tia.tick Tia.visibleTick Tia.beginLine
  split <;> split <;> rfl

theorem Tia.sameRegs_ticks (p : Params) (n : Nat) : ∀ (clock : Nat) (t : Tia), t.SameRegs (t.ticks p n clock) := by
  induction n with
  | zero => exact fun _ t => .refl t
  | succ n ih => exact fun clock t => (Tia.sameRegs_tick p clock t).trans (ih (clock + 1) _)

/-- R281, R284: the catch-up changes LineState, the latches, the Display and `lastUpdate` only. -/
theorem Tia.sameRegs_catchUp (p : Params) (clock : Nat) (t : Tia) : t.SameRegs (t.catchUp p clock) := by
  have h := Tia.sameRegs_ticks p (clock - t.lastUpdate) t.lastUpdate t
  unfold Tia.SameRegs at *
  unfold Tia.catchUp
  conv_lhs => rw [h]

@[simp] theorem Tia.catchUp_lastUpdate (p : Params) (clock : Nat) (t : Tia) : (t.catchUp p clock).lastUpdate = clock := rfl

@[simp] theorem Tia.catchUp_screenStart (p : Params) (clock : Nat) (t : Tia) :
    (t.catchUp p clock).screenStart = t.screenStart := by
  rw [Tia.sameRegs_catchUp p clock t]

@[simp] theorem Tia.catchUp_isVsync (p : Params) (clock : Nat) (t : Tia) : (t.catchUp p clock).isVsync = t.isVsync := by
  rw [Tia.sameRegs_catchUp p clock t]

theorem Tia.tick_lastUpdate (p : Params) (clock : Nat) (t : Tia) : (t.tick p clock).lastUpdate = t.lastUpdate := by
  unfold Tia.tick Tia.visibleTick Tia.beginLine
  split <;> split <;> rfl

theorem Tia.ticks_add (p : Params) (m n : Nat) : ∀ (clock : Nat) (t : Tia),
    t.ticks p (m + n) clock = (t.ticks p m clock).ticks p n (clock + m) := by
  induction m with
  | zero => intro clock t; simp [Tia.ticks]
  | succ m ih =>
    intro clock t
    rw [Nat.add_right_comm]
    simp only [Tia.ticks]
    rw [ih, Nat.add_right_comm, Nat.add_assoc]

theorem latchIf_keep {m : Byte} (hit : Bool) (mask v : Byte) (hm : mask &&& m = 0) (hv : v &&& m = 0) :
    latchIf hit mask v &&& m = 0 := by
  unfold latchIf
  split
  · rw [BitVec.and_comm, BitVec.and_or_distrib_left, BitVec.and_comm m v, hv, BitVec.and_comm m mask, hm]; rfl
  · exact hv

/-- R263, R293: `UpdateCollisions` sets bits 7 and 6 only. -/
theorem updateCollisions_ok (h : Hit) {c : Latches} (hc : c.Ok) : (updateCollisions h c).Ok := by
  obtain ⟨h1, h2, h3, h4, h5, h6, h7, h8⟩ := hc
  exact ⟨latchIf_keep _ _ _ rfl (latchIf_keep _ _ _ rfl h1), latchIf_keep _ _ _ rfl (latchIf_keep _ _ _ rfl h2),
    latchIf_keep _ _ _ rfl (latchIf_keep _ _ _ rfl h3), latchIf_keep _ _ _ rfl (latchIf_keep _ _ _ rfl h4),
    latchIf_keep _ _ _ rfl (latchIf_keep _ _ _ rfl h5), latchIf_keep _ _ _ rfl (latchIf_keep _ _ _ rfl h6),
    latchIf_keep _ _ _ rfl h7, latchIf_keep _ _ _ rfl (latchIf_keep _ _ _ rfl h8)⟩

/-- Painting a visible column keeps the Display's canonical form. -/
theorem Display.wf_paint {p : Params} {d : Display} {l x : Nat} (c : Byte) (hx : x < frameWidth)
    (h : Display.wf p.frameHeight d = true) : Display.wf p.frameHeight (Display.paint p d l x c) = true := by
  unfold Display.paint
  split
  · next hl =>
    refine Display.wfFrom_write c (Nat.zero_le _) ?_ h
    simp only [frameWidth] at hx ⊢
    omega
  · exact h

theorem Tia.hpos_lt (t : Tia) (clock : Nat) : t.hpos clock < horizontalTicks := Nat.mod_lt _ (by decide)

/-- One tick keeps the invariant of the TIA. -/
theorem Tia.Inv.tick {p : Params} {t : Tia} (clock : Nat) (h : t.Inv p) : (t.tick p clock).Inv p := by
  have hb : (t.beginLine clock).Inv p := by
    unfold Tia.beginLine
    split
    · exact ⟨h.positions, h.latches, h.unlocked, h.display⟩
    · exact h
  unfold Tia.tick Tia.visibleTick
  split
  · refine ⟨hb.positions, ?_, hb.unlocked, ?_⟩
    · simp only [Tia.latchAt]
      split
      · exact hb.latches
      · exact updateCollisions_ok _ hb.latches
    · refine Display.wf_paint _ ?_ hb.display
      have := Tia.hpos_lt (t.beginLine clock) clock
      have h1 : horizontalTicks = 228 := rfl
      have h2 : hblank = 68 := rfl
      have h3 : frameWidth = 160 := rfl
      omega
  · exact hb

theorem Tia.Inv.ticks {p : Params} (n : Nat) : ∀ {t : Tia} (clock : Nat), t.Inv p → (t.ticks p n clock).Inv p := by
  induction n with
  | zero => exact fun _ h => h
  | succ n ih => exact fun clock h => ih (clock + 1) (h.tick clock)

/-- The catch-up keeps the invariant of the TIA. -/
theorem Tia.Inv.catchUp {p : Params} {t : Tia} (clock : Nat) (h : t.Inv p) : (t.catchUp p clock).Inv p := by
  have := Tia.Inv.ticks (p := p) (clock - t.lastUpdate) t.lastUpdate h
  exact ⟨this.positions, this.latches, this.unlocked, this.display⟩

theorem strobePosition_lt (h offset : Nat) {width : Nat} (hw : 3 < width) : strobePosition h offset width < width := by
  unfold strobePosition
  split
  · exact hw
  · exact Nat.mod_lt _ (by omega)

theorem movePosition_lt (pos : Nat) (d : Int) {width : Nat} (hw : 0 < width) : movePosition pos d width < width := by
  unfold movePosition
  have h1 := Int.emod_nonneg ((pos : Int) - d) (b := (width : Int)) (by omega)
  have h2 := Int.emod_lt_of_pos ((pos : Int) - d) (b := (width : Int)) (by omega)
  omega

theorem Latches.zeros_ok : (⟨Pair.zeros, Pair.zeros, Pair.zeros, 0, 0⟩ : Latches).Ok := by
  unfold Latches.Ok Pair.zeros; decide

/-- A register write keeps the invariant of the TIA, but for locking a missile, which the access refuses. -/
theorem Tia.Inv.write {p : Params} {t : Tia} (clock : Nat) (v : Byte) (r : TiaReg)
    (hr : ∀ n, r = .resmp n → bitOf v 1 = false) (h : t.Inv p) : (t.write p clock v r).Inv p := by
  obtain ⟨hp, hl, hu, hd⟩ := h
  obtain ⟨p1, p2, p3, p4, p5⟩ := hp
  cases r with
  | resp n =>
    have := Pair.set_both (P := fun x => x < frameWidth) n ⟨p1, p2⟩
      (strobePosition_lt (t.hpos clock) p.resOffsetP (by decide))
    exact ⟨⟨this.1, this.2, p3, p4, p5⟩, hl, hu, hd⟩
  | resm n =>
    have := Pair.set_both (P := fun x => x < frameWidth) n ⟨p3, p4⟩
      (strobePosition_lt (t.hpos clock) p.resOffsetMB (by decide))
    exact ⟨⟨p1, p2, this.1, this.2, p5⟩, hl, hu, hd⟩
  | resbl => exact ⟨⟨p1, p2, p3, p4, strobePosition_lt _ _ (by decide)⟩, hl, hu, hd⟩
  | hmove =>
    exact ⟨⟨movePosition_lt _ _ (by decide), movePosition_lt _ _ (by decide), movePosition_lt _ _ (by decide),
      movePosition_lt _ _ (by decide), movePosition_lt _ _ (by decide)⟩, hl, hu, hd⟩
  | resmp n =>
    have := Pair.set_both (P := fun x => bitOf x 1 = false) n hu (hr n rfl)
    exact ⟨⟨p1, p2, p3, p4, p5⟩, hl, this, hd⟩
  | cxclr => exact ⟨⟨p1, p2, p3, p4, p5⟩, Latches.zeros_ok, hu, hd⟩
  | grp n => cases n <;> exact ⟨⟨p1, p2, p3, p4, p5⟩, hl, hu, hd⟩
  | _ => exact ⟨⟨p1, p2, p3, p4, p5⟩, hl, hu, hd⟩

/-- The beam position of a Clock at or after the frame's origin, in terms of the origin. -/
theorem Tia.frameOrigin_le (t : Tia) (clock : Nat) : t.frameOrigin clock ≤ clock := Nat.sub_le _ _

/-- R282: a frame origin set at or after the old one is again on a scanline boundary. -/
theorem Tia.frameOrigin_mod {t : Tia} {clock : Nat} (h : t.screenStart ≤ clock) (hm : t.screenStart % horizontalTicks = 0) :
    t.frameOrigin clock % horizontalTicks = 0 := by
  unfold Tia.frameOrigin Tia.hpos
  simp only [horizontalTicks] at *
  omega

/-- R301: WSYNC never moves the Clock back. -/
theorem Tia.le_wsyncClock (t : Tia) (clock : Nat) : clock ≤ t.wsyncClock clock := by
  unfold Tia.wsyncClock; split <;> omega

/-- R262, R263: the assigned bits are all that a latch may hold. -/
theorem Latches.assigned_ok (c : Latches) : c.assigned.Ok := by
  have h : ∀ b : Byte, b &&& 0xC0 &&& 0x3F = 0 ∧ b &&& 0x80 &&& 0x7F = 0 := by decide
  exact ⟨(h _).1, (h _).1, (h _).1, (h _).1, (h _).1, (h _).1, (h _).2, (h _).1⟩

/-- Latches within their assigned bits are read as they stand. -/
theorem Latches.Ok.assigned_eq {c : Latches} (h : c.Ok) : c.assigned = c := by
  have k : ∀ b : Byte, (b &&& 0x3F = 0 → b &&& 0xC0 = b) ∧ (b &&& 0x7F = 0 → b &&& 0x80 = b) := by decide
  obtain ⟨h1, h2, h3, h4, h5, h6, h7, h8⟩ := h
  simp only [Latches.assigned, (k _).1 h1, (k _).1 h2, (k _).1 h3, (k _).1 h4, (k _).1 h5, (k _).1 h6, (k _).2 h7,
    (k _).1 h8]

end Sys2Proof.Machine
end

