-- ==== Sys2Proof/Laws/Bus.lean ====
section
/-! SUPPORT. The router is total, what a bus read, a bus write, a push and a pull answer, and that they keep the invariant. -/

namespace Sys2Proof.Machine

/-- R48: with the masks of R41 every address matches a region. -/
theorem route_isSome (addr : Addr) : ∃ t, route addr = some t := by
  unfold route selectsTia
  simp only
  split
  · exact ⟨_, rfl⟩
  · split
    · split <;> exact ⟨_, rfl⟩
    · split
      · exact ⟨_, rfl⟩
      · split
        · exact ⟨_, rfl⟩
        · next h1 _ h2 => simp [selectsRiot] at h1 h2; simp [h1] at h2

/-- The numbers a target carries are in range. -/
theorem route_range {addr : Addr} {t : Target} (h : route addr = some t) :
    match t with
    | .cart o => o < 0x1000
    | .ram i => i < 0x80
    | .riotIo => True
    | .tia r p => r < 0x40 ∧ p < 0x10 := by
  unfold route at h
  simp only at h
  have hm := fun n (hn : 0 < n) => Nat.mod_lt (busAddr addr) hn
  split at h
  · cases h; exact hm 0x1000 (by decide)
  · split at h
    · split at h <;> cases h
      · trivial
      · exact hm 0x80 (by decide)
    · split at h
      · cases h; exact hm 0x80 (by decide)
      · split at h <;> cases h
        exact ⟨hm 0x40 (by decide), hm 0x10 (by decide)⟩

/-- R43: the stack byte `S` addresses is `RAM[S & 0x7F]`. -/
theorem route_stackAddr (sp : Byte) : route (stackAddr sp) = some (.ram (sp.toNat % 0x80)) := by
  revert sp; decide

/-- What a bus read may change (R46): `CartState`, the TIA, the draws and the events. -/
def State.BusFrame (s t : State) : Prop :=
  t = { s with cart := t.cart, tia := t.tia, draws := t.draws, events := t.events }

theorem State.BusFrame.refl (s : State) : s.BusFrame s := rfl

theorem State.BusFrame.trans {s t u : State} (h : s.BusFrame t) (h' : t.BusFrame u) : s.BusFrame u := by
  unfold State.BusFrame at *
  rw [h] at h'
  exact h'

theorem tiaRead_frame (r : Nat) (s : State) : s.BusFrame (tiaRead r s).2 := by
  unfold tiaRead
  split <;> rfl

/-- R50: a cartridge read that answers changes `CartState` only. -/
theorem cartRead_frame {o : Nat} {s : State} {r : Byte × State} (h : cartRead o s = some r) :
    ∃ c, r.2 = s.setCart c := by
  unfold cartRead at h
  split at h
  · cases h; exact ⟨s.cart, rfl⟩
  · obtain ⟨a, _, rfl⟩ := Option.map_eq_some_iff.1 h; exact ⟨_, rfl⟩

/-- R50: a cartridge write that answers changes `CartState` only. -/
theorem cartWrite_frame {o : Nat} {v : Byte} {s t : State} (h : cartWrite o v s = some t) : ∃ c, t = s.setCart c := by
  unfold cartWrite at h
  split at h
  · cases h; exact ⟨s.cart, rfl⟩
  · obtain ⟨a, _, rfl⟩ := Option.map_eq_some_iff.1 h; exact ⟨_, rfl⟩

/-- R51: the single-bank cartridge gives its ROM byte and keeps no state. -/
theorem cartRead_singleBank {s : State} (h : s.params.cart = .singleBank) (o : Nat) :
    cartRead o s = some (Memory.read s.mem (romKey o), s) := by unfold cartRead; rw [h]

/-- R51: the single-bank cartridge discards a write. -/
theorem cartWrite_singleBank {s : State} (h : s.params.cart = .singleBank) (o : Nat) (v : Byte) :
    cartWrite o v s = some s := by unfold cartWrite; rw [h]

/-- R53: a RIOT I/O read that answers is a draw. -/
theorem riotRead_eq_some {addr : Addr} {s : State} {r : Byte × State} (h : riotRead addr s = some r) :
    r = s.freeByte := by
  unfold riotRead at h
  split at h
  · cases h; rfl
  · cases h

/-- R53: a RIOT I/O write that answers is an event. -/
theorem riotWrite_eq_some {addr : Addr} {v : Byte} {s t : State} (h : riotWrite addr v s = some t) :
    t = s.emit (.riotWrite (riotAddr addr) v s.clock) := by
  unfold riotWrite at h
  split at h
  · cases h; rfl
  · cases h

/-- R53, R336: the default RIOT I/O collaborator takes every access. -/
theorem State.riotTakes_oracle {s : State} (h : s.params.riotIO = .oracle) (k : Access) (addr : Addr) :
    s.riotTakes k addr = true := by unfold State.riotTakes; rw [h]

/-- An access answers with what its collaborator gave. -/
theorem answered_eq_next {α : Type} {addr : Addr} {r : Option α} {a : α} (h : answered addr r = .next a) :
    r = some a := by
  cases r with
  | none => cases h
  | some b => cases h; rfl

/-- R48: an access whose collaborator gave nothing is `InvalidAddress`, else it answers. -/
theorem answered_cases {α : Type} (addr : Addr) (r : Option α) :
    (∃ a, r = some a ∧ answered addr r = .next a) ∨ r = none ∧ answered addr r = .fault (.invalidAddress addr) := by
  cases r with
  | none => exact .inr ⟨rfl, rfl⟩
  | some a => exact .inl ⟨a, rfl, rfl⟩

/-- R48: a collaborator that gave nothing to a cartridge read is not the single bank. -/
theorem cartRead_eq_none {o : Nat} {s : State} (h : cartRead o s = none) : s.params.cart ≠ .singleBank :=
  fun hc => by rw [cartRead_singleBank hc] at h; cases h

theorem cartWrite_eq_none {o : Nat} {v : Byte} {s : State} (h : cartWrite o v s = none) : s.params.cart ≠ .singleBank :=
  fun hc => by rw [cartWrite_singleBank hc] at h; cases h

/-- R48: a collaborator that gave nothing to a RIOT I/O access is not the oracle. -/
theorem riotRead_eq_none {addr : Addr} {s : State} (h : riotRead addr s = none) : s.params.riotIO ≠ .oracle :=
  fun hc => by simp [riotRead, State.riotTakes_oracle hc] at h

theorem riotWrite_eq_none {addr : Addr} {v : Byte} {s : State} (h : riotWrite addr v s = none) :
    s.params.riotIO ≠ .oracle :=
  fun hc => by simp [riotWrite, State.riotTakes_oracle hc] at h

/-- Whether an access may be refused depends on the launch parameters only. -/
theorem State.mayRefuse_congr {s t : State} (h : t.params = s.params) (a : Addr) : t.mayRefuse a = s.mayRefuse a := by
  unfold State.mayRefuse; rw [h]

theorem State.AccessRefused.congr {α : Type} {s t : State} (h : t.params = s.params) {r : Result α}
    (ha : t.AccessRefused r) : s.AccessRefused r := by
  obtain ⟨a, hr, hm⟩ := ha
  exact ⟨a, hr, State.mayRefuse_congr h a ▸ hm⟩

/-- A refused access ends what comes after it by the same fault. -/
theorem State.AccessRefused.andThen {α β : Type} {s : State} {r : Result α} (h : s.AccessRefused r) (f : α → Result β) :
    s.AccessRefused (Machine.andThen r f) := by
  obtain ⟨a, rfl, hm⟩ := h
  exact ⟨a, rfl, hm⟩

/-- The default collaborators refuse nothing. -/
theorem State.DefaultBus.not_mayRefuse {s : State} (h : s.DefaultBus) (a : Addr) : s.mayRefuse a = false := by
  unfold State.mayRefuse
  rw [h.1, h.2]
  split <;> rfl

theorem State.DefaultBus.not_refused {α : Type} {s : State} (h : s.DefaultBus) {r : Result α} : ¬s.AccessRefused r :=
  fun ⟨a, _, hm⟩ => by rw [h.not_mayRefuse a] at hm; cases hm

theorem State.DefaultBus.congr {s t : State} (hp : t.params = s.params) (h : s.DefaultBus) : t.DefaultBus := by
  unfold State.DefaultBus at *; rw [hp]; exact h

/-- R46: a bus read that answers changes `CartState`, the TIA (its catch-up), the draws and the events only. -/
theorem busRead_frame {addr : Addr} {s t : State} {v : Byte} (h : busRead addr s = .next (v, t)) : s.BusFrame t := by
  unfold busRead at h
  split at h
  · obtain ⟨c, rfl⟩ := cartRead_frame (answered_eq_next h); rfl
  · cases h; rfl
  · have h2 := riotRead_eq_some (answered_eq_next h); cases h2; rfl
  · next port _ =>
    have h2 : (tiaRead port s).2 = t := by injection h with h; rw [h]
    exact h2 ▸ tiaRead_frame port s
  · cases h

/-- Everything a bus read can do: it answers, or a collaborator that may do so refuses it (R48). -/
theorem busRead_cases (addr : Addr) (s : State) :
    (∃ v t, busRead addr s = .next (v, t) ∧ s.BusFrame t) ∨
      busRead addr s = .fault (.invalidAddress addr) ∧ s.mayRefuse addr = true := by
  cases h : busRead addr s with
  | next r => exact .inl ⟨r.1, r.2, rfl, busRead_frame h⟩
  | refused r =>
    exfalso
    unfold busRead at h
    split at h
    · next o _ => cases hr : cartRead o s <;> rw [hr] at h <;> cases h
    · cases h
    · cases hr : riotRead addr s <;> rw [hr] at h <;> cases h
    · cases h
    · cases h
  | fault f =>
    refine .inr ?_
    obtain ⟨tg, ht⟩ := route_isSome addr
    unfold busRead at h
    rw [ht] at h
    cases tg with
    | cart o =>
      rcases answered_cases addr (cartRead o s) with ⟨a, _, ha⟩ | ⟨hn, ha⟩
      · simp only [ha] at h; cases h
      · simp only [ha] at h
        cases h
        exact ⟨rfl, by simpa [State.mayRefuse, ht] using cartRead_eq_none hn⟩
    | ram i => cases h
    | riotIo =>
      rcases answered_cases addr (riotRead addr s) with ⟨a, _, ha⟩ | ⟨hn, ha⟩
      · simp only [ha] at h; cases h
      · simp only [ha] at h
        cases h
        exact ⟨rfl, by simpa [State.mayRefuse, ht] using riotRead_eq_none hn⟩
    | tia r p => cases h

/-- With the default collaborators every bus read answers. -/
theorem busRead_answers (addr : Addr) {s : State} (hd : s.DefaultBus) : ∃ v t, busRead addr s = .next (v, t) := by
  rcases busRead_cases addr s with ⟨v, t, h, _⟩ | h
  · exact ⟨v, t, h⟩
  · exact absurd ⟨addr, h⟩ hd.not_refused

/-- A bus read from storage gives the storage byte and changes nothing (R42, R46). -/
theorem busRead_storage {addr : Addr} {s : State} {v : Byte} (h : s.peek addr = some v) :
    busRead addr s = .next (v, s) := by
  unfold State.peek at h
  unfold busRead
  split at h
  · next hr => cases h; rw [hr]
  · next o hr =>
    split at h
    · next hc => cases h; rw [hr]; simp only [cartRead_singleBank hc, answered]
    · cases h
  · cases h

theorem State.Inv.emit {s : State} (e : Event) (h : s.Inv) : (s.emit e).Inv := ⟨h.memory, h.tia, h.beam⟩
theorem State.Inv.drew {s : State} (n : Nat) (h : s.Inv) : (s.drew n).Inv := ⟨h.memory, h.tia, h.beam⟩
theorem State.Inv.setA {s : State} (v : Byte) (h : s.Inv) : (s.setA v).Inv := ⟨h.memory, h.tia, h.beam⟩
theorem State.Inv.setX {s : State} (v : Byte) (h : s.Inv) : (s.setX v).Inv := ⟨h.memory, h.tia, h.beam⟩
theorem State.Inv.setY {s : State} (v : Byte) (h : s.Inv) : (s.setY v).Inv := ⟨h.memory, h.tia, h.beam⟩
theorem State.Inv.setSp {s : State} (v : Byte) (h : s.Inv) : (s.setSp v).Inv := ⟨h.memory, h.tia, h.beam⟩
theorem State.Inv.setPc {s : State} (v : Addr) (h : s.Inv) : (s.setPc v).Inv := ⟨h.memory, h.tia, h.beam⟩
theorem State.Inv.setCart {s : State} (c : CartState) (h : s.Inv) : (s.setCart c).Inv := ⟨h.memory, h.tia, h.beam⟩
theorem State.Inv.setFlags {s : State} (f : Flags) (h : s.Inv) : (s.setFlags f).Inv := ⟨h.memory, h.tia, h.beam⟩

theorem Tia.BeamOk.later {t : Tia} {c d : Nat} (h : t.BeamOk c) (hcd : c ≤ d) : t.BeamOk d :=
  ⟨h.1, Nat.le_trans h.2.1 hcd, h.2.2⟩

/-- The invariant survives the Clock's advance. -/
theorem State.Inv.setClock {s : State} {c : Nat} (hc : s.clock ≤ c) (h : s.Inv) : (s.setClock c).Inv :=
  ⟨h.memory, h.tia, h.beam.later hc⟩

theorem State.Inv.charge {s : State} (n : Nat) (h : s.Inv) : (s.charge n).Inv := h.setClock (s.le_clockAfter n)

/-- Cartridge accesses keep the invariant. -/
theorem State.Inv.cartRead {o : Nat} {s : State} {r : Byte × State} (hr : cartRead o s = some r) (h : s.Inv) :
    r.2.Inv := by
  obtain ⟨c, hc⟩ := cartRead_frame hr
  exact hc ▸ h.setCart c

theorem State.Inv.cartWrite {o : Nat} {v : Byte} {s t : State} (hw : cartWrite o v s = some t) (h : s.Inv) :
    t.Inv := by
  obtain ⟨c, hc⟩ := cartWrite_frame hw
  exact hc ▸ h.setCart c

theorem State.Inv.catchUp {s : State} (h : s.Inv) : s.catchUp.Inv := by
  refine ⟨h.memory, h.tia.catchUp s.clock, ?_⟩
  have hb := h.beam
  simp only [Tia.BeamOk, State.catchUp_tia, State.catchUp_clock, Tia.catchUp_lastUpdate, Tia.catchUp_screenStart]
  exact ⟨Nat.le_trans hb.1 hb.2.1, Nat.le_refl _, hb.2.2⟩

/-- R281: after the catch-up the pixels are painted up to the Clock. -/
theorem State.catchUp_lastUpdate (s : State) : s.catchUp.tia.lastUpdate = s.clock := rfl

theorem State.Inv.tiaRead {s : State} (r : Nat) (h : s.Inv) : (tiaRead r s).2.Inv := by
  unfold Machine.tiaRead
  split
  · exact h.catchUp.emit _
  · exact (h.catchUp.emit _).drew 1

/-- A bus read keeps the invariant. -/
theorem State.Inv.busRead {addr : Addr} {s t : State} {v : Byte} (hr : busRead addr s = .next (v, t)) (h : s.Inv) :
    t.Inv := by
  unfold Machine.busRead at hr
  split at hr
  · exact h.cartRead (answered_eq_next hr)
  · cases hr; exact h
  · have h2 := riotRead_eq_some (answered_eq_next hr); cases h2; exact h.drew 1
  · next port _ =>
    have h2 : (Machine.tiaRead port s).2 = t := by injection hr with hr; rw [hr]
    exact h2 ▸ h.tiaRead port
  · cases hr

/-- A register's effect on the TIA alone keeps the scan bookkeeping. -/
theorem Tia.BeamOk.write {t : Tia} {c : Nat} (p : Params) (v : Byte) (r : TiaReg) (h : t.BeamOk c) :
    (t.write p c v r).BeamOk c := by
  cases r with
  | grp n => cases n <;> exact h
  | _ => exact h

/-- A register's effect on the TIA alone keeps the invariant. -/
theorem State.Inv.writeTia {s : State} (v : Byte) (r : TiaReg) (hr : ∀ n, r = .resmp n → bitOf v 1 = false) (h : s.Inv) :
    (s.setTia (s.tia.write s.params s.clock v r)).Inv :=
  ⟨h.memory, h.tia.write s.clock v r hr, h.beam.write s.params v r⟩

/-- R300: VSYNC keeps the invariant once the catch-up has run. -/
theorem State.Inv.writeVsync {s : State} (v : Byte) (hl : s.tia.lastUpdate = s.clock) (h : s.Inv) :
    (writeVsync v s).Inv := by
  have hb := h.beam
  have ht := h.tia
  have same : ∀ (vs : Byte) (b : Bool), ({ s.tia with vsync := vs, isVsync := b } : Tia).Inv s.params :=
    fun _ _ => ⟨ht.positions, ht.latches, ht.unlocked, ht.display⟩
  unfold Machine.writeVsync
  split
  · split
    · exact ⟨h.memory, same _ _, hb⟩
    · exact ⟨h.memory, same _ _, hb⟩
  · split
    · refine ⟨h.memory, ⟨ht.positions, ht.latches, ht.unlocked, ht.display⟩, ?_⟩
      simp only [Tia.BeamOk, State.setTia_tia, State.setTia_clock]
      rw [hl]
      exact ⟨Tia.frameOrigin_le _ _, Nat.le_refl _, Tia.frameOrigin_mod (Nat.le_trans hb.1 hb.2.1) hb.2.2⟩
    · exact ⟨h.memory, same _ _, hb⟩

/-- A TIA register write after the catch-up keeps the invariant. -/
theorem State.Inv.writeReg {s t : State} {r : TiaReg} {v : Byte} (hw : writeReg r v s = .next t)
    (hl : s.tia.lastUpdate = s.clock) (h : s.Inv) : t.Inv := by
  cases r with
  | vsync => cases hw; exact h.writeVsync v hl
  | vblank => cases hw; exact (h.emit _).writeTia v .vblank (fun _ hn => by cases hn)
  | wsync => cases hw; exact h.setClock (Tia.le_wsyncClock _ _)
  | rsync => cases hw
  | resmp n =>
    simp only [Machine.writeReg] at hw
    split at hw
    · cases hw
    · next hb => cases hw; exact h.writeTia v _ (fun _ _ => by simpa using hb)
  | audio port => cases hw; exact h.emit _
  | _ => cases hw; exact h.writeTia v _ (fun _ hn => by cases hn)

/-- A TIA write keeps the invariant. -/
theorem State.Inv.tiaWrite {s t : State} {r : Nat} {v : Byte} (hw : tiaWrite r v s = .next t) (h : s.Inv) : t.Inv := by
  unfold Machine.tiaWrite at hw
  split at hw
  · cases hw; exact h.catchUp.emit _
  · obtain ⟨u, hu, ht⟩ := andThen_eq_next hw
    cases ht
    exact (State.Inv.writeReg hu (State.catchUp_lastUpdate s) h.catchUp).emit _

/-- A bus write keeps the invariant. -/
theorem State.Inv.busWrite {addr : Addr} {s t : State} {v : Byte} (hw : busWrite addr v s = .next t) (h : s.Inv) :
    t.Inv := by
  unfold Machine.busWrite at hw
  split at hw
  · exact h.cartWrite (answered_eq_next hw)
  · next i hr =>
    cases hw
    have hi : i < 0x80 := route_range hr
    exact ⟨Memory.wf_write v (Memory.isKey_ram hi) h.memory, h.tia, h.beam⟩
  · rw [riotWrite_eq_some (answered_eq_next hw)]; exact h.emit _
  · exact h.tiaWrite hw
  · cases hw

/-- A register write changes the TIA, the Clock and the events only. -/
theorem writeReg_frame {r : TiaReg} {v : Byte} {s t : State} (h : writeReg r v s = .next t) :
    t = { s with tia := t.tia, clock := t.clock, events := t.events } ∧ s.clock ≤ t.clock := by
  cases r with
  | vsync =>
    cases h
    simp only [writeVsync]
    split <;> split <;> exact ⟨rfl, Nat.le_refl _⟩
  | wsync => cases h; exact ⟨rfl, Tia.le_wsyncClock _ _⟩
  | rsync => cases h
  | resmp n =>
    simp only [writeReg] at h
    split at h
    · cases h
    · cases h; exact ⟨rfl, Nat.le_refl _⟩
  | _ => cases h; exact ⟨rfl, Nat.le_refl _⟩

/-- What a bus write may change: storage, `CartState`, the TIA, the Clock (WSYNC, forward) and the events. -/
theorem busWrite_frame {addr : Addr} {v : Byte} {s t : State} (h : busWrite addr v s = .next t) :
    t = { s with mem := t.mem, cart := t.cart, tia := t.tia, clock := t.clock, events := t.events } ∧
      s.clock ≤ t.clock := by
  unfold busWrite at h
  split at h
  · obtain ⟨c, rfl⟩ := cartWrite_frame (answered_eq_next h); exact ⟨rfl, Nat.le_refl _⟩
  · cases h; exact ⟨rfl, Nat.le_refl _⟩
  · rw [riotWrite_eq_some (answered_eq_next h)]; exact ⟨rfl, Nat.le_refl _⟩
  · unfold tiaWrite at h
    split at h
    · cases h; exact ⟨rfl, Nat.le_refl _⟩
    · obtain ⟨u, hu, ht⟩ := andThen_eq_next h
      cases ht
      have := writeReg_frame hu
      have hm : u.mem = s.mem := by rw [this.1]; rfl
      have hk : u.cart = s.cart := by rw [this.1]; rfl
      refine ⟨?_, this.2⟩
      conv_lhs => rw [this.1]
      simp only [State.audioStep_mem, State.audioStep_cart, hm, hk]
      rfl
  · cases h

/-- A bus write changes storage only at a RAM address, and there only its own byte. -/
theorem busWrite_mem {addr : Addr} {v : Byte} {s t : State} (h : busWrite addr v s = .next t) :
    t.mem = match route addr with
      | some (.ram i) => Memory.write s.mem (ramKey i) v
      | _ => s.mem := by
  unfold busWrite at h
  split at h
  · next o hr => obtain ⟨c, rfl⟩ := cartWrite_frame (answered_eq_next h); simp [hr]
  · next hr => cases h; simp [hr]
  · next hr => rw [riotWrite_eq_some (answered_eq_next h)]; simp [hr]
  · next reg port hr =>
    rw [hr]
    unfold tiaWrite at h
    split at h
    · cases h; rfl
    · obtain ⟨u, hu, ht⟩ := andThen_eq_next h
      cases ht
      rw [State.audioStep_mem, (writeReg_frame hu).1]
      rfl
  · cases h

/-- `Push(v)` always answers (R15): the byte goes to `RAM[S & 0x7F]`, and `S` decreases. -/
theorem push_eq (v : Byte) (s : State) :
    push v s = .next { s with mem := Memory.write s.mem (ramKey (s.sp.toNat % 0x80)) v, sp := s.sp - 1 } := by
  unfold push busWrite
  rw [route_stackAddr]
  rfl

/-- `Pull()` always answers (R15): `S` increases, then `RAM[S & 0x7F]` is read. -/
theorem pull_eq (s : State) :
    pull s = .next (Memory.read s.mem (ramKey ((s.sp + 1).toNat % 0x80)), { s with sp := s.sp + 1 }) := by
  unfold pull busRead
  rw [route_stackAddr]
  rfl

/-- A push keeps the invariant. -/
theorem State.Inv.push {v : Byte} {s t : State} (hp : push v s = .next t) (h : s.Inv) : t.Inv := by
  rw [push_eq] at hp
  cases hp
  exact ⟨Memory.wf_write v (Memory.isKey_ram (Nat.mod_lt _ (by decide))) h.memory, h.tia, h.beam⟩

/-- A pull keeps the invariant. -/
theorem State.Inv.pull {v : Byte} {s t : State} (hp : pull s = .next (v, t)) (h : s.Inv) : t.Inv := by
  rw [pull_eq] at hp
  cases hp
  exact ⟨h.memory, h.tia, h.beam⟩

/-- R354: what `reset()` can do: `PC` from the two reads and nothing else, or `InvalidAddress` from one of them. -/
theorem applyReset_cases (s : State) :
    (∃ lo hi t u, busRead 0xFFFC s = .next (lo, t) ∧ busRead 0xFFFD t = .next (hi, u) ∧
      applyReset s = .next { s with pc := joinBytes lo hi }) ∨ s.AccessRefused (applyReset s) := by
  have h2 : resetVector + 1 = 0xFFFD := rfl
  rcases busRead_cases 0xFFFC s with ⟨lo, t, hlo, hf⟩ | h
  · have hp : t.params = s.params := by unfold State.BusFrame at hf; rw [hf]
    rcases busRead_cases 0xFFFD t with ⟨hi, u, hhi, _⟩ | h
    · exact .inl ⟨lo, hi, t, u, hlo, hhi, by
        simp only [applyReset, busRead16, resetVector, hlo, andThen_next] at h2 ⊢; rw [h2, hhi]; rfl⟩
    · refine .inr ?_
      simp only [applyReset, busRead16, resetVector, hlo, andThen_next] at h2 ⊢
      rw [h2]
      exact (State.AccessRefused.congr hp (State.AccessRefused.andThen ⟨_, h⟩ _)).andThen _
  · refine .inr ?_
    simp only [applyReset, busRead16, resetVector]
    exact (State.AccessRefused.andThen ⟨_, h⟩ _).andThen _

/-- R354: `State.reset` is what `reset()` makes of the power-on state. -/
theorem applyReset_powerOn : applyReset State.powerOn = .next State.reset := rfl

end Sys2Proof.Machine
end

