-- ==== Sys2Proof/Laws/Exec.lean ====
section
/-! SUPPORT. `exec` through the mnemonic and the operand of an instruction, and one spec lemma per shared operation. -/

namespace Sys2Proof.Machine

/-- A shift, rotate, increment or decrement on the accumulator or in memory (R111). -/
def modifyAny (o : Operand) (sem : Modify) (s : State) : Result State :=
  match o with
  | .acc => accInstr sem s
  | o => modifyInstr o sem s

/-- NOP in its implied and its reading forms. -/
def nopAny (o : Operand) (s : State) : Result State :=
  match o with
  | .imp => impliedInstr nopImplied s
  | o => readInstr o nopRead s

/-- The displacement byte of a `rel` operand. -/
def Operand.displacement : Operand → Byte
  | .rel d => d
  | _ => 0

/-- The 16-bit operand of an `abs` operand. -/
def Operand.word : Operand → Addr
  | .abs w => w
  | _ => 0

/-- The operand is JMP (ind)'s. -/
def Operand.isIndirect : Operand → Bool
  | .ind _ => true
  | _ => false

/-- The cycles of JMP (R189). -/
def jumpCycles : Operand → Nat
  | .ind _ => 5
  | _ => 3

/-- What a mnemonic does with an operand. -/
def meaningOf (m : Mnemonic) (o : Operand) (s : State) : Result State :=
  match m with
  | .adc => readInstr o State.adc s
  | .alr => readInstr o State.alr s
  | .and => readInstr o andEffect s
  | .asl => modifyAny o (shiftModify aslByte) s
  | .bcc => branchInstr (!s.flags.c) o.displacement s
  | .bcs => branchInstr s.flags.c o.displacement s
  | .beq => branchInstr s.flags.z o.displacement s
  | .bit => readInstr o State.bitTest s
  | .bmi => branchInstr s.flags.n o.displacement s
  | .bne => branchInstr (!s.flags.z) o.displacement s
  | .bpl => branchInstr (!s.flags.n) o.displacement s
  | .brk => takeTrap (s.pc + 2) brkVector 7 s
  | .bvc => branchInstr (!s.flags.v) o.displacement s
  | .bvs => branchInstr s.flags.v o.displacement s
  | .clc => impliedInstr clcEffect s
  | .cld => impliedInstr cldEffect s
  | .cli => impliedInstr cliEffect s
  | .clv => impliedInstr clvEffect s
  | .cmp => readInstr o cmpEffect s
  | .cpx => readInstr o cpxEffect s
  | .cpy => readInstr o cpyEffect s
  | .dcp => modifyAny o dcpModify s
  | .dec => modifyAny o decModify s
  | .dex => impliedInstr dexEffect s
  | .dey => impliedInstr deyEffect s
  | .eor => readInstr o eorEffect s
  | .inc => modifyAny o incModify s
  | .inx => impliedInstr inxEffect s
  | .iny => impliedInstr inyEffect s
  | .jmp => jumpInstr o (jumpCycles o) s
  | .jsr => callInstr o.word s
  | .lax => readInstr o laxEffect s
  | .lda => readInstr o State.loadA s
  | .ldx => readInstr o State.loadX s
  | .ldy => readInstr o State.loadY s
  | .lsr => modifyAny o (shiftModify lsrByte) s
  | .nop => nopAny o s
  | .ora => readInstr o oraEffect s
  | .pha => pushInstr s.a 3 s
  | .php => pushInstr (pushedStatus s.flags) 3 s
  | .pla => pullInstr State.loadA 4 s
  | .plp => pullInstr (fun t p => t.setFlags (pulledFlags p)) 4 s
  | .rol => modifyAny o (shiftModify rolByte) s
  | .ror => modifyAny o (shiftModify rorByte) s
  | .rti => returnFromTrap 6 s
  | .rts => returnInstr s
  | .sax => storeInstr o saxEffect s
  | .sbc => readInstr o State.sbc s
  | .sbx => readInstr o State.sbx s
  | .sec => impliedInstr secEffect s
  | .sed => impliedInstr sedEffect s
  | .sei => impliedInstr seiEffect s
  | .slo => modifyAny o sloModify s
  | .sta => storeInstr o State.a s
  | .stx => storeInstr o State.x s
  | .sty => storeInstr o State.y s
  | .tax => impliedInstr taxEffect s
  | .tay => impliedInstr tayEffect s
  | .tsx => impliedInstr tsxEffect s
  | .txa => impliedInstr txaEffect s
  | .txs => impliedInstr txsEffect s
  | .tya => impliedInstr tyaEffect s

/-- `exec` is the meaning of the mnemonic on the operand: the one unfolding of the dispatch table. -/
theorem exec_eq (i : Instr) (s : State) : exec i s = meaningOf i.mnemonic i.operand s := by cases i <;> rfl

/-- The formats a read-type instruction can have (R111). -/
def Operand.isRead : Operand → Bool
  | .imm _ | .zp _ | .zpx _ | .zpy _ | .abs _ | .abx _ | .aby _ | .izx _ | .izy _ => true
  | .imp | .acc | .rel _ | .ind _ => false

/-- The formats a store-type or a memory RMW-type instruction can have (R111). -/
def Operand.isStore : Operand → Bool
  | .zp _ | .zpx _ | .zpy _ | .abs _ | .abx _ | .aby _ | .izx _ | .izy _ => true
  | .imm _ | .imp | .acc | .rel _ | .ind _ => false

/-- The formats of the operands a mnemonic has. -/
def takesOperand (m : Mnemonic) (o : Operand) : Bool :=
  match m with
  | .adc | .alr | .and | .bit | .cmp | .cpx | .cpy | .eor | .lax | .lda | .ldx | .ldy | .ora | .sbc | .sbx => o.isRead
  | .nop => o.isRead || o == .imp
  | .sax | .sta | .stx | .sty | .dcp | .dec | .inc | .slo => o.isStore
  | .asl | .lsr | .rol | .ror => o.isStore || o == .acc
  | .bcc | .bcs | .beq | .bmi | .bne | .bpl | .bvc | .bvs => o == .rel o.displacement
  | .jmp => o == .abs o.word || o.isIndirect
  | .jsr => o == .abs o.word
  | .brk | .clc | .cld | .cli | .clv | .dex | .dey | .inx | .iny | .pha | .php | .pla | .plp | .rti | .rts
  | .sec | .sed | .sei | .tax | .tay | .tsx | .txa | .txs | .tya => o == .imp

/-- Every instruction's operand has a format its mnemonic takes. -/
theorem takes_operand (i : Instr) : takesOperand i.mnemonic i.operand = true := by
  cases i <;> simp [Instr.mnemonic, Instr.operand, takesOperand, Operand.isRead, Operand.isStore,
    Operand.displacement, Operand.word, Operand.isIndirect]

/-- A bus read leaves the Clock and the launch parameters. -/
theorem State.BusFrame.clock {s t : State} (h : s.BusFrame t) : t.clock = s.clock := by
  unfold State.BusFrame at h; rw [h]

theorem State.BusFrame.params {s t : State} (h : s.BusFrame t) : t.params = s.params := by
  unfold State.BusFrame at h; rw [h]

/-- Two bus reads one after the other: both answer, or one is refused (R48). -/
theorem busReadPair_cases {α : Type} (a b : Addr) (f : Byte → Byte → α) (s : State) :
    (∃ v t, (andThen (busRead a s) fun lo => andThen (busRead b lo.2) fun hi => .next (f lo.1 hi.1, hi.2)) = .next (v, t) ∧
      s.BusFrame t) ∨
    s.AccessRefused (andThen (busRead a s) fun lo => andThen (busRead b lo.2) fun hi => .next (f lo.1 hi.1, hi.2)) := by
  rcases busRead_cases a s with ⟨v, t, ht, hf⟩ | h
  · simp only [ht, andThen_next]
    rcases busRead_cases b t with ⟨w, u, hu, hg⟩ | h
    · exact .inl ⟨f v w, u, by simp only [hu, andThen_next], hf.trans hg⟩
    · exact .inr ((State.AccessRefused.congr hf.params ⟨_, h⟩).andThen _)
  · exact .inr (State.AccessRefused.andThen ⟨_, h⟩ _)

/-- A pure step after an operation keeps what it can do. -/
theorem andThen_cases {α β : Type} {s : State} {r : Result (α × State)} (f : α → β)
    (h : (∃ v t, r = .next (v, t) ∧ s.BusFrame t) ∨ s.AccessRefused r) :
    (∃ v t, (andThen r fun a => .next (f a.1, a.2)) = .next (v, t) ∧ s.BusFrame t) ∨
      s.AccessRefused (andThen r fun a => .next (f a.1, a.2)) := by
  rcases h with ⟨v, t, h, hf⟩ | h
  · exact .inl ⟨f v, t, by simp only [h, andThen_next], hf⟩
  · exact .inr (h.andThen _)

/-- R90: everything the addressing unit can do: an effective address results, writing no register and no storage, or a
pointer read is refused (R48). -/
theorem effective_cases (o : Operand) (s : State) :
    (∃ e t, effective o s = .next (e, t) ∧ s.BusFrame t) ∨ s.AccessRefused (effective o s) := by
  cases o with
  | ind w => exact andThen_cases plainEffective (busReadPair_cases _ _ joinBytes s)
  | izx z => exact andThen_cases plainEffective (busReadPair_cases _ _ joinBytes s)
  | izy z => exact andThen_cases (fun a => indexed a s.y) (busReadPair_cases _ _ joinBytes s)
  | _ => exact .inl ⟨_, _, rfl, rfl⟩

/-- Computing an effective address writes no register and no storage. -/
theorem effective_frame {o : Operand} {s t : State} {e : Effective} (h : effective o s = .next (e, t)) : s.BusFrame t := by
  rcases effective_cases o s with ⟨e', t', h', hf⟩ | ⟨a, h', _⟩
  · rw [h] at h'; cases h'; exact hf
  · rw [h] at h'; cases h'

/-- R90: with the default collaborators an effective address always results. -/
theorem effective_answers (o : Operand) {s : State} (hd : s.DefaultBus) : ∃ e t, effective o s = .next (e, t) := by
  rcases effective_cases o s with ⟨e, t, h, _⟩ | h
  · exact ⟨e, t, h⟩
  · exact absurd h hd.not_refused

/-- R98: a page crossing is defined for `abx`, `aby` and `izy` only. -/
theorem effective_not_crossed {o : Operand} {s t : State} {e : Effective} (h : effective o s = .next (e, t))
    (ho : o.storeAdjust = 0) : e.crossed = false := by
  cases o with
  | abx w => cases ho
  | aby w => cases ho
  | izy z => cases ho
  | ind w => obtain ⟨a, _, ha⟩ := andThen_eq_next h; cases ha; rfl
  | izx z => obtain ⟨a, _, ha⟩ := andThen_eq_next h; cases ha; rfl
  | _ => cases h; rfl

/-- R109 adds up to R108 for read-type instructions. -/
theorem readCycles_eq {o : Operand} (ho : o.isRead = true) (crossed : Bool) (hc : o.storeAdjust = 0 → crossed = false) :
    o.addrCycles + (if crossed then 1 else 0) + busReadCycles + nullWriteCycles = readCycles o crossed := by
  cases o <;> cases crossed <;> simp_all [Operand.isRead, Operand.addrCycles, Operand.storeAdjust, readCycles, busReadCycles, nullWriteCycles]

/-- R109 adds up to R108 for store-type instructions. -/
theorem storeCycles_eq {o : Operand} (ho : o.isStore = true) :
    o.addrCycles + o.storeAdjust + nullReadCycles + registerWriteCycles = storeCycles o := by
  cases o <;> simp_all [Operand.isStore, Operand.addrCycles, Operand.storeAdjust, storeCycles, nullReadCycles, registerWriteCycles]

/-- R109 adds up to R108 for memory RMW-type instructions. -/
theorem modifyCycles_eq {o : Operand} (ho : o.isStore = true) :
    o.addrCycles + o.storeAdjust + busReadCycles + busWriteCycles = modifyCycles o := by
  cases o <;> simp_all [Operand.isStore, Operand.addrCycles, Operand.storeAdjust, modifyCycles, busReadCycles, busWriteCycles]

/-- A state that stands `m` cycles after `s` is charged `n` more. -/
theorem State.charge_from {s u : State} {m : Nat} (hp : u.params = s.params) (hc : u.clock = s.clockAfter m) (n : Nat) :
    u.charge n = { u with clock := s.clockAfter (m + n) } := by
  simp only [State.charge, State.setClock, State.clockAfter, hp, hc, Nat.add_mul, Nat.add_assoc]

/-- The same from the Clock of `s`. -/
theorem State.BusFrame.charge_eq {s u : State} (h : s.BusFrame u) (n : Nat) :
    u.charge n = { u with clock := s.clockAfter n } := by
  rw [State.charge_from h.params (h.clock.trans s.clockAfter_zero.symm), Nat.zero_add]

theorem State.BusFrame.charge {s t : State} (n : Nat) (h : s.BusFrame t) : s.ReadFrame (t.charge n) := by
  rw [h.charge_eq]
  unfold State.BusFrame at h
  unfold State.ReadFrame
  conv_lhs => rw [h]

theorem State.ReadFrame.busFrame {s t u : State} (h : s.ReadFrame t) (h' : t.BusFrame u) :
    s.ReadFrame u ∧ u.clock = t.clock := by
  unfold State.BusFrame at h'
  have hc : u.clock = t.clock := by rw [h']
  refine ⟨?_, hc⟩
  unfold State.ReadFrame at *
  rw [h] at h'
  rw [hc]
  exact h'

theorem State.ReadFrame.charge {s t : State} (n : Nat) (h : s.ReadFrame t) : s.ReadFrame (t.charge n) := by
  unfold State.ReadFrame State.charge State.setClock at *
  generalize t.clockAfter n = c
  conv_lhs => rw [h]

/-- Everything the operand read can do: it answers and only makes bus reads, or it is refused (R48). -/
theorem readOperand_cases (o : Operand) (ea : Addr) (s : State) :
    (∃ v t, readOperand o ea s = .next (v, t) ∧ s.BusFrame t) ∨ s.AccessRefused (readOperand o ea s) := by
  cases o with
  | imm v => exact .inl ⟨v, s, rfl, rfl⟩
  | _ => exact (busRead_cases ea s).imp_right fun h => ⟨ea, h⟩

/-- A read-type instruction completes with its semantics applied to the operand byte. -/
theorem readInstr_eq {o : Operand} {s t : State} {v : Byte} (sem : State → Byte → State)
    (h : operandByte o s = .next (v, t)) : readInstr o sem s = .next ((sem t v).advance o.size) := by
  simp [readInstr, h, nullWriteCycles, State.charge, State.setClock]

/-- Pushing an address always answers (R57, R190). -/
theorem pushAddr_eq (ret : Addr) (s : State) :
    pushAddr ret s = .next { s with
      mem := Memory.write (Memory.write s.mem (ramKey (s.sp.toNat % 0x80)) (hiByte ret))
        (ramKey ((s.sp - 1).toNat % 0x80)) (loByte ret)
      sp := s.sp - 1 - 1 } := by
  simp only [pushAddr, push_eq, andThen_next]

/-- Pulling an address always answers (R57, R191). -/
theorem pullAddr_eq (s : State) :
    pullAddr s = .next (joinBytes (Memory.read s.mem (ramKey ((s.sp + 1).toNat % 0x80)))
      (Memory.read s.mem (ramKey ((s.sp + 1 + 1).toNat % 0x80))), { s with sp := s.sp + 1 + 1 }) := by
  simp only [pullAddr, pull_eq, andThen_next]

/-- `charge` of an addition. -/
theorem State.charge_charge (s : State) (m n : Nat) : (s.charge m).charge n = s.charge (m + n) := by
  exact State.charge_from (u := s.charge m) (s := s) (m := m) rfl rfl n

/-- A charge of no cycles. -/
@[simp] theorem State.charge_zero (s : State) : s.charge 0 = s := by
  simp only [State.charge, State.setClock, State.clockAfter_zero]

/-- An implied instruction completes with its semantics at the Clock of its end, 2 cycles on (R108, R111). -/
theorem impliedInstr_eq (sem : State → State) (s : State) :
    impliedInstr sem s = .next ((sem { s with clock := s.clockAfter 2 }).advance 0) := by
  have h : (s.charge impliedAdjust).charge nullReadCycles = { s with clock := s.clockAfter 2 } :=
    s.charge_charge 1 1
  simp only [impliedInstr, nullWriteCycles, State.charge_zero, h]

/-- An accumulator instruction completes: its semantics runs 1 cycle on, and it ends 2 cycles on (R108, R111). -/
theorem accInstr_eq (sem : Modify) (s : State) :
    accInstr sem s = .next ((((sem s.a (s.charge 1)).2.charge 1).setA (sem s.a (s.charge 1)).1).advance 0) := rfl

/-- The steps of a read-type instruction up to its data byte (R105 steps 1 to 3) are what `State.ReadsOperand` says (R112). -/
theorem operandByte_eq {o : Operand} (ho : o.isRead = true) {s u w : State} {e : Effective} {v : Byte}
    (he : effective o s = .next (e, u))
    (hv : readOperand o e.addr (u.charge (o.addrCycles + e.penalty)) = .next (v, w)) :
    operandByte o s = .next (v, w.charge busReadCycles) ∧ s.ReadsOperand o v (w.charge busReadCycles) := by
  have hf := effective_frame he
  have hg : (u.charge (o.addrCycles + e.penalty)).BusFrame w := by
    rcases readOperand_cases o e.addr (u.charge (o.addrCycles + e.penalty)) with ⟨_, _, h, hg⟩ | ⟨_, h, _⟩ <;>
      rw [hv] at h <;> cases h
    exact hg
  have hw : w.clock = s.clockAfter (o.addrCycles + e.penalty) := by rw [hg.clock, hf.charge_eq]
  have hp : w.params = s.params := hg.params.trans hf.params
  refine ⟨by simp only [operandByte, he, hv, andThen_next], ?_⟩
  have hn := effective_not_crossed he
  rw [hf.charge_eq] at hv
  rw [State.charge_from hp hw]
  cases o with
  | imm b => cases he; cases hv; exact ⟨rfl, rfl⟩
  | imp => cases ho
  | acc => cases ho
  | rel d => cases ho
  | ind w => cases ho
  | _ =>
    refine ⟨e, u, w, he, ?_, ?_⟩
    · rw [← hv]
      simp only [readOperand]
      congr 3
      cases hx : e.crossed <;>
        simp_all [readCycles, Operand.addrCycles, Effective.penalty, Operand.storeAdjust]
    · congr 2
      cases hx : e.crossed <;>
        simp_all [readCycles, Operand.addrCycles, Effective.penalty, Operand.storeAdjust, busReadCycles]

/-- Everything a read-type instruction can do up to its data byte: it reads the byte that `State.ReadsOperand` gives, or
an access is refused (R48). -/
theorem operandByte_cases {o : Operand} (ho : o.isRead = true) (s : State) :
    (∃ v t, operandByte o s = .next (v, t) ∧ s.ReadsOperand o v t) ∨ s.AccessRefused (operandByte o s) := by
  rcases effective_cases o s with ⟨e, u, he, hf⟩ | h
  · rcases readOperand_cases o e.addr (u.charge (o.addrCycles + e.penalty)) with ⟨v, w, hv, _⟩ | h
    · exact .inl ⟨v, _, operandByte_eq ho he hv⟩
    · refine .inr ?_
      simp only [operandByte, he, andThen_next]
      exact (State.AccessRefused.congr (by rw [hf.charge_eq]; exact hf.params) h).andThen _
  · exact .inr (h.andThen _)

/-- `State.ReadsOperand` gives one byte and one state. -/
theorem State.ReadsOperand.unique {s t t' : State} {o : Operand} {v v' : Byte} (h : s.ReadsOperand o v t)
    (h' : s.ReadsOperand o v' t') : v = v' ∧ t = t' := by
  have key : (∃ e u w, effective o s = .next (e, u) ∧
      busRead e.addr { u with clock := s.clockAfter (readCycles o e.crossed - 2) } = .next (v, w) ∧
      t = { w with clock := s.clockAfter (readCycles o e.crossed) }) →
      (∃ e u w, effective o s = .next (e, u) ∧
      busRead e.addr { u with clock := s.clockAfter (readCycles o e.crossed - 2) } = .next (v', w) ∧
      t' = { w with clock := s.clockAfter (readCycles o e.crossed) }) → v = v' ∧ t = t' := by
    rintro ⟨e, u, w, he, hw, ht⟩ ⟨e', u', w', he', hw', ht'⟩
    rw [he] at he'; cases he'
    rw [hw] at hw'; cases hw'
    exact ⟨rfl, ht.trans ht'.symm⟩
  cases o with
  | imm b => exact ⟨h.1.trans h'.1.symm, h.2.trans h'.2.symm⟩
  | _ => exact key h h'

/-- What `State.ReadsOperand` gives is the operand of a read-type instruction. -/
theorem operandByte_reads {o : Operand} (ho : o.isRead = true) {s t : State} {v : Byte} (h : s.ReadsOperand o v t) :
    operandByte o s = .next (v, t) := by
  have done : ∀ {e : Effective} {u w : State}, effective o s = .next (e, u) →
      readOperand o e.addr (u.charge (o.addrCycles + e.penalty)) = .next (v, w) → operandByte o s = .next (v, t) := by
    intro e u w he hw
    obtain ⟨h1, h2⟩ := operandByte_eq ho he hw
    rw [h1, (h.unique h2).2]
  have read : (∃ e u w, effective o s = .next (e, u) ∧
      busRead e.addr { u with clock := s.clockAfter (readCycles o e.crossed - 2) } = .next (v, w) ∧
      t = { w with clock := s.clockAfter (readCycles o e.crossed) }) →
      (∀ ea u, readOperand o ea u = busRead ea u) → operandByte o s = .next (v, t) := by
    rintro ⟨e, u, w, he, hw, _⟩ hr
    refine done he (w := w) ?_
    have hn := effective_not_crossed he
    rw [hr, (effective_frame he).charge_eq, ← hw]
    congr 3
    cases o <;> cases hx : e.crossed <;>
      simp_all [Operand.isRead, readCycles, Operand.addrCycles, Effective.penalty, Operand.storeAdjust]
  cases o with
  | imm b => obtain ⟨hv, _⟩ := h; subst hv; exact done rfl rfl
  | imp => cases ho
  | acc => cases ho
  | rel d => cases ho
  | ind w => cases ho
  | _ => exact read h (fun _ _ => rfl)

/-- A read-type instruction completes with its semantics applied to what `State.ReadsOperand` gives. -/
theorem readInstr_reads {o : Operand} (ho : o.isRead = true) (sem : State → Byte → State) {s t : State} {v : Byte}
    (h : s.ReadsOperand o v t) : readInstr o sem s = .next ((sem t v).advance o.size) :=
  readInstr_eq sem (operandByte_reads ho h)

/-- Everything a read-type instruction can do (R105, R48). -/
theorem readInstr_cases {o : Operand} (ho : o.isRead = true) (sem : State → Byte → State) (s : State) :
    (∃ v t, s.ReadsOperand o v t ∧ readInstr o sem s = .next ((sem t v).advance o.size)) ∨
      s.AccessRefused (readInstr o sem s) := by
  rcases operandByte_cases ho s with ⟨v, t, _, hr⟩ | h
  · exact .inl ⟨v, t, hr, readInstr_reads ho sem hr⟩
  · exact .inr (h.andThen _)

/-- A read-type access changes the Clock and what bus reads change only. -/
theorem State.ReadsOperand.frame {s t : State} {o : Operand} {v : Byte} (h : s.ReadsOperand o v t) : s.ReadFrame t := by
  have key : ∀ {e : Effective} {u w : State} {c d : Nat}, effective o s = .next (e, u) →
      busRead e.addr { u with clock := c } = .next (v, w) → t = { w with clock := d } → s.ReadFrame t := by
    intro e u w c d he hw ht
    have hf := effective_frame he
    have hg := busRead_frame hw
    unfold State.BusFrame at hf hg
    unfold State.ReadFrame
    rw [ht, hg, hf]
  cases o with
  | imm b => obtain ⟨_, ht⟩ := h; rw [ht]; rfl
  | _ => obtain ⟨e, u, w, he, hw, ht⟩ := h; exact key he hw ht

/-- A store's address and the state its write is made in are what `State.StoresTo` says (R112). -/
theorem storeTarget_stores {o : Operand} (ho : o.isStore = true) {s t : State} {a : Addr} (h : s.StoresTo o a t) :
    storeTarget o s = .next (a, t) := by
  obtain ⟨e, u, he, ha, ht⟩ := h
  have hf := effective_frame he
  simp only [storeTarget, he, andThen_next, State.charge_charge, storeCycles_eq ho, hf.charge_eq, ha, ht]

/-- A store-type instruction in terms of `State.StoresTo`. -/
theorem storeInstr_stores {o : Operand} (ho : o.isStore = true) {s t : State} {a : Addr} (value : State → Byte)
    (h : s.StoresTo o a t) :
    storeInstr o value s = andThen (busWrite a (value s) t) fun u => .next (u.advance o.size) := by
  simp only [storeInstr, storeTarget_stores ho h, andThen_next]

/-- With the default collaborators every operand gives a read-type instruction its byte, if it has the format of one. -/
theorem State.readsOperand_answers {s : State} (hd : s.DefaultBus) (o : Operand) : ∃ v t, s.ReadsOperand o v t := by
  have read : ∃ v t e u w, effective o s = .next (e, u) ∧
      busRead e.addr { u with clock := s.clockAfter (readCycles o e.crossed - 2) } = .next (v, w) ∧
      t = { w with clock := s.clockAfter (readCycles o e.crossed) } := by
    obtain ⟨e, u, he⟩ := effective_answers o hd
    obtain ⟨v, w, hw⟩ := busRead_answers e.addr (s := { u with clock := s.clockAfter (readCycles o e.crossed - 2) })
      (hd.congr (effective_frame he).params)
    exact ⟨v, _, e, u, w, he, hw, rfl⟩
  cases o with
  | imm b => exact ⟨b, _, rfl, rfl⟩
  | _ => exact read

/-- With the default collaborators every operand gives a store its address. -/
theorem State.storesTo_answers {s : State} (hd : s.DefaultBus) (o : Operand) : ∃ a t, s.StoresTo o a t := by
  obtain ⟨e, u, he⟩ := effective_answers o hd
  exact ⟨e.addr, _, e, u, he, rfl, rfl⟩

/-- Everything a store-type instruction can do up to its write: it has the address that `State.StoresTo` gives, or a pointer
read is refused (R48). -/
theorem storeInstr_cases (o : Operand) (value : State → Byte) (s : State) :
    (∃ a t, s.StoresTo o a t) ∨ s.AccessRefused (storeInstr o value s) := by
  rcases effective_cases o s with ⟨e, u, he, _⟩ | h
  · exact .inl ⟨e.addr, _, e, u, he, rfl, rfl⟩
  · exact .inr ((h.andThen _).andThen _)

/-- Finding a store's address changes the Clock and what bus reads change only. -/
theorem State.StoresTo.frame {s t : State} {o : Operand} {a : Addr} (h : s.StoresTo o a t) : s.ReadFrame t := by
  obtain ⟨e, u, he, _, ht⟩ := h
  have hf := effective_frame he
  unfold State.BusFrame at hf
  unfold State.ReadFrame
  rw [ht, hf]

/-- With the default collaborators every operand gives a read-modify-write its byte. -/
theorem State.readsTarget_answers {s : State} (hd : s.DefaultBus) (o : Operand) : ∃ a v t, s.ReadsTarget o a v t := by
  obtain ⟨e, u, he⟩ := effective_answers o hd
  obtain ⟨v, w, hw⟩ := busRead_answers e.addr (s := { u with clock := s.clockAfter (modifyCycles o - 4) })
    (hd.congr (effective_frame he).params)
  exact ⟨e.addr, v, _, e, u, w, he, rfl, hw, rfl⟩

/-- Reading an RMW target changes the Clock and what bus reads change only. -/
theorem State.ReadsTarget.frame {s t : State} {o : Operand} {a : Addr} {v : Byte} (h : s.ReadsTarget o a v t) :
    s.ReadFrame t := by
  obtain ⟨e, u, w, he, _, hw, ht⟩ := h
  have hf := effective_frame he
  have hg := busRead_frame hw
  unfold State.BusFrame at hf hg
  unfold State.ReadFrame
  rw [ht, hg, hf]

/-- A memory RMW-type instruction in terms of `State.ReadsTarget`: its semantics runs 2 cycles before its end, on the
byte read, and its write is made at the end. -/
theorem modifyInstr_reads {o : Operand} (ho : o.isStore = true) {s t : State} {a : Addr} {v : Byte} (sem : Modify)
    (h : s.ReadsTarget o a v t) (hsem : ∀ (u : State) (c : Nat), sem v { u with clock := c } =
      ((sem v u).1, { (sem v u).2 with clock := c })) (hpar : ∀ u : State, (sem v u).2.params = u.params) :
    modifyInstr o sem s = andThen (busWrite a (sem v t).1 (sem v t).2) fun u => .next (u.advance o.size) := by
  obtain ⟨e, u, w, he, ha, hw, ht⟩ := h
  have hf := effective_frame he
  have hcyc := modifyCycles_eq ho
  have hg := busRead_frame hw
  have hwc : w.clock = s.clockAfter (modifyCycles o - 4) := hg.clock
  have hwp : w.params = s.params := hg.params.trans hf.params
  have h4 : o.addrCycles + o.storeAdjust = modifyCycles o - 4 := by
    rw [← hcyc]; simp only [busReadCycles, busWriteCycles]; omega
  have h4' : modifyCycles o - 4 + 4 = modifyCycles o := by
    rw [← hcyc]; simp only [busReadCycles, busWriteCycles]; omega
  subst ha
  simp only [modifyInstr, modifyTarget, he, andThen_next, hf.charge_eq, h4, hw, ht]
  have hend : modifyCycles o - 4 + busReadCycles + busWriteCycles = modifyCycles o := h4'
  rw [State.charge_from hwp hwc, hsem w (s.clockAfter (modifyCycles o - 4 + busReadCycles)),
    hsem w (s.clockAfter (modifyCycles o))]
  have hlast : ({ (sem v w).2 with clock := s.clockAfter (modifyCycles o - 4 + busReadCycles) } : State).charge
      busWriteCycles = { (sem v w).2 with clock := s.clockAfter (modifyCycles o) } := by
    have := State.charge_from (s := s) (m := modifyCycles o - 4 + busReadCycles)
      (u := { (sem v w).2 with clock := s.clockAfter (modifyCycles o - 4 + busReadCycles) })
      ((hpar w).trans hwp) rfl busWriteCycles
    rw [hend] at this
    exact this
  simp only [hlast]

/-- Everything a bus write can do: it answers, it is one of the writes R245 and R260 refuse, or a collaborator that may do
so refuses it (R48). -/
theorem busWrite_cases (addr : Addr) (v : Byte) (s : State) :
    (∃ t, busWrite addr v s = .next t) ∨
      (refusesWrite addr v = true ∧ (busWrite addr v s = .refused .rsyncWrite ∨ ∃ n, busWrite addr v s = .refused (.resmpLock n))) ∨
      (refusesWrite addr v = false ∧ s.mayRefuse addr = true ∧ busWrite addr v s = .fault (.invalidAddress addr)) := by
  obtain ⟨tg, ht⟩ := route_isSome addr
  unfold refusesWrite busWrite State.mayRefuse
  rw [ht]
  cases tg with
  | cart o =>
    rcases answered_cases addr (cartWrite o v s) with ⟨a, _, ha⟩ | ⟨hn, ha⟩
    · exact .inl ⟨a, ha⟩
    · exact .inr (.inr ⟨rfl, by simpa using cartWrite_eq_none hn, ha⟩)
  | ram i => exact .inl ⟨_, rfl⟩
  | riotIo =>
    rcases answered_cases addr (riotWrite addr v s) with ⟨a, _, ha⟩ | ⟨hn, ha⟩
    · exact .inl ⟨a, ha⟩
    · exact .inr (.inr ⟨rfl, by simpa using riotWrite_eq_none hn, ha⟩)
  | tia reg port =>
    have hr : reg < 0x40 := (route_range ht).1
    have key : ∀ r < 0x40, (tiaRegOf r = some .rsync ↔ r = 0x03) ∧ (tiaRegOf r = some (.resmp .zero) ↔ r = 0x28) ∧
        (tiaRegOf r = some (.resmp .one) ↔ r = 0x29) := by decide
    obtain ⟨k1, k2, k3⟩ := key reg hr
    simp only [tiaWrite]
    split
    · exact .inl ⟨_, rfl⟩
    · next r hreg =>
      cases r with
      | rsync =>
        have := k1.1 hreg
        exact .inr (.inl ⟨by simp [this], .inl rfl⟩)
      | resmp n =>
        by_cases hb : bitOf v 1 = true
        · refine .inr (.inl ⟨?_, .inr ⟨n, by simp only [writeReg, hb]; rfl⟩⟩)
          cases n
          · simp [k2.1 hreg, hb]
          · simp [k3.1 hreg, hb]
        · exact .inl ⟨_, by simp only [writeReg, hb]; rfl⟩
      | _ => exact .inl ⟨_, rfl⟩

/-- Everything a memory RMW-type instruction can do up to its write: it reads the byte that `State.ReadsTarget` gives, or
an access is refused (R48). -/
theorem modifyInstr_cases {o : Operand} (ho : o.isStore = true) (sem : Modify) (s : State) :
    (∃ a v t, s.ReadsTarget o a v t) ∨ s.AccessRefused (modifyInstr o sem s) := by
  rcases effective_cases o s with ⟨e, u, he, hf⟩ | h
  · have h4 : o.addrCycles + o.storeAdjust = modifyCycles o - 4 := by
      have := modifyCycles_eq ho; simp only [busReadCycles, busWriteCycles] at this; omega
    rcases busRead_cases e.addr { u with clock := s.clockAfter (modifyCycles o - 4) } with ⟨v, w, hw, _⟩ | h
    · exact .inl ⟨e.addr, v, _, e, u, w, he, rfl, hw, rfl⟩
    · refine .inr ?_
      simp only [modifyInstr, modifyTarget, he, andThen_next, hf.charge_eq, h4]
      exact ((State.AccessRefused.congr (t := { u with clock := s.clockAfter (modifyCycles o - 4) }) hf.params
        ⟨_, h⟩).andThen _).andThen _
  · exact .inr ((h.andThen _).andThen _)

/-- A bus write that nothing may refuse answers. -/
theorem busWrite_answers {addr : Addr} {v : Byte} {s : State} (h : refusesWrite addr v = false)
    (hm : s.mayRefuse addr = false) : ∃ t, busWrite addr v s = .next t := by
  rcases busWrite_cases addr v s with ht | ⟨hr, _⟩ | ⟨_, hr, _⟩
  · exact ht
  · rw [h] at hr; cases hr
  · rw [hm] at hr; cases hr

end Sys2Proof.Machine
end

