-- ==== Sys2Proof/Laws/PerInstr.lean ====
section
/-! SUPPORT. The family Shape: an instruction is well formed and its encoding is as long as its format says (R70, R71). -/

namespace Sys2Proof.Laws

/-- The bytes of an instruction are its opcode byte and the operand bytes of its format (R70, R71, R81). -/
def Shape.Statement (i : Instr) : Prop := i.WellFormed = true ∧ (encode i).length = 1 + i.operand.size

theorem Shape.brk : Shape.Statement .brk := ⟨rfl, rfl⟩
theorem Shape.oraIzx (z : Byte) : Shape.Statement (.oraIzx z) := ⟨rfl, rfl⟩
theorem Shape.sloIzx (z : Byte) : Shape.Statement (.sloIzx z) := ⟨rfl, rfl⟩
theorem Shape.nopZp04 (z : Byte) : Shape.Statement (.nopZp04 z) := ⟨rfl, rfl⟩
theorem Shape.oraZp (z : Byte) : Shape.Statement (.oraZp z) := ⟨rfl, rfl⟩
theorem Shape.aslZp (z : Byte) : Shape.Statement (.aslZp z) := ⟨rfl, rfl⟩
theorem Shape.sloZp (z : Byte) : Shape.Statement (.sloZp z) := ⟨rfl, rfl⟩
theorem Shape.php : Shape.Statement .php := ⟨rfl, rfl⟩
theorem Shape.oraImm (v : Byte) : Shape.Statement (.oraImm v) := ⟨rfl, rfl⟩
theorem Shape.aslAcc : Shape.Statement .aslAcc := ⟨rfl, rfl⟩
theorem Shape.nopAbs0C (w : Addr) : Shape.Statement (.nopAbs0C w) := ⟨rfl, rfl⟩
theorem Shape.oraAbs (w : Addr) : Shape.Statement (.oraAbs w) := ⟨rfl, rfl⟩
theorem Shape.aslAbs (w : Addr) : Shape.Statement (.aslAbs w) := ⟨rfl, rfl⟩
theorem Shape.sloAbs (w : Addr) : Shape.Statement (.sloAbs w) := ⟨rfl, rfl⟩
theorem Shape.bplRel (d : Byte) : Shape.Statement (.bplRel d) := ⟨rfl, rfl⟩
theorem Shape.oraIzy (z : Byte) : Shape.Statement (.oraIzy z) := ⟨rfl, rfl⟩
theorem Shape.sloIzy (z : Byte) : Shape.Statement (.sloIzy z) := ⟨rfl, rfl⟩
theorem Shape.nopZpx14 (z : Byte) : Shape.Statement (.nopZpx14 z) := ⟨rfl, rfl⟩
theorem Shape.oraZpx (z : Byte) : Shape.Statement (.oraZpx z) := ⟨rfl, rfl⟩
theorem Shape.aslZpx (z : Byte) : Shape.Statement (.aslZpx z) := ⟨rfl, rfl⟩
theorem Shape.sloZpx (z : Byte) : Shape.Statement (.sloZpx z) := ⟨rfl, rfl⟩
theorem Shape.clc : Shape.Statement .clc := ⟨rfl, rfl⟩
theorem Shape.oraAby (w : Addr) : Shape.Statement (.oraAby w) := ⟨rfl, rfl⟩
theorem Shape.nopImp1A : Shape.Statement .nopImp1A := ⟨rfl, rfl⟩
theorem Shape.sloAby (w : Addr) : Shape.Statement (.sloAby w) := ⟨rfl, rfl⟩
theorem Shape.nopAbx1C (w : Addr) : Shape.Statement (.nopAbx1C w) := ⟨rfl, rfl⟩
theorem Shape.oraAbx (w : Addr) : Shape.Statement (.oraAbx w) := ⟨rfl, rfl⟩
theorem Shape.aslAbx (w : Addr) : Shape.Statement (.aslAbx w) := ⟨rfl, rfl⟩
theorem Shape.sloAbx (w : Addr) : Shape.Statement (.sloAbx w) := ⟨rfl, rfl⟩
theorem Shape.jsrAbs (w : Addr) : Shape.Statement (.jsrAbs w) := ⟨rfl, rfl⟩
theorem Shape.andIzx (z : Byte) : Shape.Statement (.andIzx z) := ⟨rfl, rfl⟩
theorem Shape.bitZp (z : Byte) : Shape.Statement (.bitZp z) := ⟨rfl, rfl⟩
theorem Shape.andZp (z : Byte) : Shape.Statement (.andZp z) := ⟨rfl, rfl⟩
theorem Shape.rolZp (z : Byte) : Shape.Statement (.rolZp z) := ⟨rfl, rfl⟩
theorem Shape.plp : Shape.Statement .plp := ⟨rfl, rfl⟩
theorem Shape.andImm (v : Byte) : Shape.Statement (.andImm v) := ⟨rfl, rfl⟩
theorem Shape.rolAcc : Shape.Statement .rolAcc := ⟨rfl, rfl⟩
theorem Shape.bitAbs (w : Addr) : Shape.Statement (.bitAbs w) := ⟨rfl, rfl⟩
theorem Shape.andAbs (w : Addr) : Shape.Statement (.andAbs w) := ⟨rfl, rfl⟩
theorem Shape.rolAbs (w : Addr) : Shape.Statement (.rolAbs w) := ⟨rfl, rfl⟩
theorem Shape.bmiRel (d : Byte) : Shape.Statement (.bmiRel d) := ⟨rfl, rfl⟩
theorem Shape.andIzy (z : Byte) : Shape.Statement (.andIzy z) := ⟨rfl, rfl⟩
theorem Shape.nopZpx34 (z : Byte) : Shape.Statement (.nopZpx34 z) := ⟨rfl, rfl⟩
theorem Shape.andZpx (z : Byte) : Shape.Statement (.andZpx z) := ⟨rfl, rfl⟩
theorem Shape.rolZpx (z : Byte) : Shape.Statement (.rolZpx z) := ⟨rfl, rfl⟩
theorem Shape.sec : Shape.Statement .sec := ⟨rfl, rfl⟩
theorem Shape.andAby (w : Addr) : Shape.Statement (.andAby w) := ⟨rfl, rfl⟩
theorem Shape.nopImp3A : Shape.Statement .nopImp3A := ⟨rfl, rfl⟩
theorem Shape.nopAbx3C (w : Addr) : Shape.Statement (.nopAbx3C w) := ⟨rfl, rfl⟩
theorem Shape.andAbx (w : Addr) : Shape.Statement (.andAbx w) := ⟨rfl, rfl⟩
theorem Shape.rolAbx (w : Addr) : Shape.Statement (.rolAbx w) := ⟨rfl, rfl⟩
theorem Shape.rti : Shape.Statement .rti := ⟨rfl, rfl⟩
theorem Shape.eorIzx (z : Byte) : Shape.Statement (.eorIzx z) := ⟨rfl, rfl⟩
theorem Shape.nopZp44 (z : Byte) : Shape.Statement (.nopZp44 z) := ⟨rfl, rfl⟩
theorem Shape.eorZp (z : Byte) : Shape.Statement (.eorZp z) := ⟨rfl, rfl⟩
theorem Shape.lsrZp (z : Byte) : Shape.Statement (.lsrZp z) := ⟨rfl, rfl⟩
theorem Shape.pha : Shape.Statement .pha := ⟨rfl, rfl⟩
theorem Shape.eorImm (v : Byte) : Shape.Statement (.eorImm v) := ⟨rfl, rfl⟩
theorem Shape.lsrAcc : Shape.Statement .lsrAcc := ⟨rfl, rfl⟩
theorem Shape.alrImm (v : Byte) : Shape.Statement (.alrImm v) := ⟨rfl, rfl⟩
theorem Shape.jmpAbs (w : Addr) : Shape.Statement (.jmpAbs w) := ⟨rfl, rfl⟩
theorem Shape.eorAbs (w : Addr) : Shape.Statement (.eorAbs w) := ⟨rfl, rfl⟩
theorem Shape.lsrAbs (w : Addr) : Shape.Statement (.lsrAbs w) := ⟨rfl, rfl⟩
theorem Shape.bvcRel (d : Byte) : Shape.Statement (.bvcRel d) := ⟨rfl, rfl⟩
theorem Shape.eorIzy (z : Byte) : Shape.Statement (.eorIzy z) := ⟨rfl, rfl⟩
theorem Shape.nopZpx54 (z : Byte) : Shape.Statement (.nopZpx54 z) := ⟨rfl, rfl⟩
theorem Shape.eorZpx (z : Byte) : Shape.Statement (.eorZpx z) := ⟨rfl, rfl⟩
theorem Shape.lsrZpx (z : Byte) : Shape.Statement (.lsrZpx z) := ⟨rfl, rfl⟩
theorem Shape.cli : Shape.Statement .cli := ⟨rfl, rfl⟩
theorem Shape.eorAby (w : Addr) : Shape.Statement (.eorAby w) := ⟨rfl, rfl⟩
theorem Shape.nopImp5A : Shape.Statement .nopImp5A := ⟨rfl, rfl⟩
theorem Shape.nopAbx5C (w : Addr) : Shape.Statement (.nopAbx5C w) := ⟨rfl, rfl⟩
theorem Shape.eorAbx (w : Addr) : Shape.Statement (.eorAbx w) := ⟨rfl, rfl⟩
theorem Shape.lsrAbx (w : Addr) : Shape.Statement (.lsrAbx w) := ⟨rfl, rfl⟩
theorem Shape.rts : Shape.Statement .rts := ⟨rfl, rfl⟩
theorem Shape.adcIzx (z : Byte) : Shape.Statement (.adcIzx z) := ⟨rfl, rfl⟩
theorem Shape.nopZp64 (z : Byte) : Shape.Statement (.nopZp64 z) := ⟨rfl, rfl⟩
theorem Shape.adcZp (z : Byte) : Shape.Statement (.adcZp z) := ⟨rfl, rfl⟩
theorem Shape.rorZp (z : Byte) : Shape.Statement (.rorZp z) := ⟨rfl, rfl⟩
theorem Shape.pla : Shape.Statement .pla := ⟨rfl, rfl⟩
theorem Shape.adcImm (v : Byte) : Shape.Statement (.adcImm v) := ⟨rfl, rfl⟩
theorem Shape.rorAcc : Shape.Statement .rorAcc := ⟨rfl, rfl⟩
theorem Shape.jmpInd (w : Addr) : Shape.Statement (.jmpInd w) := ⟨rfl, rfl⟩
theorem Shape.adcAbs (w : Addr) : Shape.Statement (.adcAbs w) := ⟨rfl, rfl⟩
theorem Shape.rorAbs (w : Addr) : Shape.Statement (.rorAbs w) := ⟨rfl, rfl⟩
theorem Shape.bvsRel (d : Byte) : Shape.Statement (.bvsRel d) := ⟨rfl, rfl⟩
theorem Shape.adcIzy (z : Byte) : Shape.Statement (.adcIzy z) := ⟨rfl, rfl⟩
theorem Shape.nopZpx74 (z : Byte) : Shape.Statement (.nopZpx74 z) := ⟨rfl, rfl⟩
theorem Shape.adcZpx (z : Byte) : Shape.Statement (.adcZpx z) := ⟨rfl, rfl⟩
theorem Shape.rorZpx (z : Byte) : Shape.Statement (.rorZpx z) := ⟨rfl, rfl⟩
theorem Shape.sei : Shape.Statement .sei := ⟨rfl, rfl⟩
theorem Shape.adcAby (w : Addr) : Shape.Statement (.adcAby w) := ⟨rfl, rfl⟩
theorem Shape.nopImp7A : Shape.Statement .nopImp7A := ⟨rfl, rfl⟩
theorem Shape.nopAbx7C (w : Addr) : Shape.Statement (.nopAbx7C w) := ⟨rfl, rfl⟩
theorem Shape.adcAbx (w : Addr) : Shape.Statement (.adcAbx w) := ⟨rfl, rfl⟩
theorem Shape.rorAbx (w : Addr) : Shape.Statement (.rorAbx w) := ⟨rfl, rfl⟩
theorem Shape.nopImm80 (v : Byte) : Shape.Statement (.nopImm80 v) := ⟨rfl, rfl⟩
theorem Shape.staIzx (z : Byte) : Shape.Statement (.staIzx z) := ⟨rfl, rfl⟩
theorem Shape.nopImm82 (v : Byte) : Shape.Statement (.nopImm82 v) := ⟨rfl, rfl⟩
theorem Shape.saxIzx (z : Byte) : Shape.Statement (.saxIzx z) := ⟨rfl, rfl⟩
theorem Shape.styZp (z : Byte) : Shape.Statement (.styZp z) := ⟨rfl, rfl⟩
theorem Shape.staZp (z : Byte) : Shape.Statement (.staZp z) := ⟨rfl, rfl⟩
theorem Shape.stxZp (z : Byte) : Shape.Statement (.stxZp z) := ⟨rfl, rfl⟩
theorem Shape.saxZp (z : Byte) : Shape.Statement (.saxZp z) := ⟨rfl, rfl⟩
theorem Shape.dey : Shape.Statement .dey := ⟨rfl, rfl⟩
theorem Shape.nopImm89 (v : Byte) : Shape.Statement (.nopImm89 v) := ⟨rfl, rfl⟩
theorem Shape.txa : Shape.Statement .txa := ⟨rfl, rfl⟩
theorem Shape.styAbs (w : Addr) : Shape.Statement (.styAbs w) := ⟨rfl, rfl⟩
theorem Shape.staAbs (w : Addr) : Shape.Statement (.staAbs w) := ⟨rfl, rfl⟩
theorem Shape.stxAbs (w : Addr) : Shape.Statement (.stxAbs w) := ⟨rfl, rfl⟩
theorem Shape.saxAbs (w : Addr) : Shape.Statement (.saxAbs w) := ⟨rfl, rfl⟩
theorem Shape.bccRel (d : Byte) : Shape.Statement (.bccRel d) := ⟨rfl, rfl⟩
theorem Shape.staIzy (z : Byte) : Shape.Statement (.staIzy z) := ⟨rfl, rfl⟩
theorem Shape.styZpx (z : Byte) : Shape.Statement (.styZpx z) := ⟨rfl, rfl⟩
theorem Shape.staZpx (z : Byte) : Shape.Statement (.staZpx z) := ⟨rfl, rfl⟩
theorem Shape.stxZpy (z : Byte) : Shape.Statement (.stxZpy z) := ⟨rfl, rfl⟩
theorem Shape.saxZpy (z : Byte) : Shape.Statement (.saxZpy z) := ⟨rfl, rfl⟩
theorem Shape.tya : Shape.Statement .tya := ⟨rfl, rfl⟩
theorem Shape.staAby (w : Addr) : Shape.Statement (.staAby w) := ⟨rfl, rfl⟩
theorem Shape.txs : Shape.Statement .txs := ⟨rfl, rfl⟩
theorem Shape.staAbx (w : Addr) : Shape.Statement (.staAbx w) := ⟨rfl, rfl⟩
theorem Shape.ldyImm (v : Byte) : Shape.Statement (.ldyImm v) := ⟨rfl, rfl⟩
theorem Shape.ldaIzx (z : Byte) : Shape.Statement (.ldaIzx z) := ⟨rfl, rfl⟩
theorem Shape.ldxImm (v : Byte) : Shape.Statement (.ldxImm v) := ⟨rfl, rfl⟩
theorem Shape.laxIzx (z : Byte) : Shape.Statement (.laxIzx z) := ⟨rfl, rfl⟩
theorem Shape.ldyZp (z : Byte) : Shape.Statement (.ldyZp z) := ⟨rfl, rfl⟩
theorem Shape.ldaZp (z : Byte) : Shape.Statement (.ldaZp z) := ⟨rfl, rfl⟩
theorem Shape.ldxZp (z : Byte) : Shape.Statement (.ldxZp z) := ⟨rfl, rfl⟩
theorem Shape.laxZp (z : Byte) : Shape.Statement (.laxZp z) := ⟨rfl, rfl⟩
theorem Shape.tay : Shape.Statement .tay := ⟨rfl, rfl⟩
theorem Shape.ldaImm (v : Byte) : Shape.Statement (.ldaImm v) := ⟨rfl, rfl⟩
theorem Shape.tax : Shape.Statement .tax := ⟨rfl, rfl⟩
theorem Shape.ldyAbs (w : Addr) : Shape.Statement (.ldyAbs w) := ⟨rfl, rfl⟩
theorem Shape.ldaAbs (w : Addr) : Shape.Statement (.ldaAbs w) := ⟨rfl, rfl⟩
theorem Shape.ldxAbs (w : Addr) : Shape.Statement (.ldxAbs w) := ⟨rfl, rfl⟩
theorem Shape.laxAbs (w : Addr) : Shape.Statement (.laxAbs w) := ⟨rfl, rfl⟩
theorem Shape.bcsRel (d : Byte) : Shape.Statement (.bcsRel d) := ⟨rfl, rfl⟩
theorem Shape.ldaIzy (z : Byte) : Shape.Statement (.ldaIzy z) := ⟨rfl, rfl⟩
theorem Shape.laxIzy (z : Byte) : Shape.Statement (.laxIzy z) := ⟨rfl, rfl⟩
theorem Shape.ldyZpx (z : Byte) : Shape.Statement (.ldyZpx z) := ⟨rfl, rfl⟩
theorem Shape.ldaZpx (z : Byte) : Shape.Statement (.ldaZpx z) := ⟨rfl, rfl⟩
theorem Shape.ldxZpy (z : Byte) : Shape.Statement (.ldxZpy z) := ⟨rfl, rfl⟩
theorem Shape.laxZpy (z : Byte) : Shape.Statement (.laxZpy z) := ⟨rfl, rfl⟩
theorem Shape.clv : Shape.Statement .clv := ⟨rfl, rfl⟩
theorem Shape.ldaAby (w : Addr) : Shape.Statement (.ldaAby w) := ⟨rfl, rfl⟩
theorem Shape.tsx : Shape.Statement .tsx := ⟨rfl, rfl⟩
theorem Shape.ldyAbx (w : Addr) : Shape.Statement (.ldyAbx w) := ⟨rfl, rfl⟩
theorem Shape.ldaAbx (w : Addr) : Shape.Statement (.ldaAbx w) := ⟨rfl, rfl⟩
theorem Shape.ldxAby (w : Addr) : Shape.Statement (.ldxAby w) := ⟨rfl, rfl⟩
theorem Shape.laxAby (w : Addr) : Shape.Statement (.laxAby w) := ⟨rfl, rfl⟩
theorem Shape.cpyImm (v : Byte) : Shape.Statement (.cpyImm v) := ⟨rfl, rfl⟩
theorem Shape.cmpIzx (z : Byte) : Shape.Statement (.cmpIzx z) := ⟨rfl, rfl⟩
theorem Shape.nopImmC2 (v : Byte) : Shape.Statement (.nopImmC2 v) := ⟨rfl, rfl⟩
theorem Shape.dcpIzx (z : Byte) : Shape.Statement (.dcpIzx z) := ⟨rfl, rfl⟩
theorem Shape.cpyZp (z : Byte) : Shape.Statement (.cpyZp z) := ⟨rfl, rfl⟩
theorem Shape.cmpZp (z : Byte) : Shape.Statement (.cmpZp z) := ⟨rfl, rfl⟩
theorem Shape.decZp (z : Byte) : Shape.Statement (.decZp z) := ⟨rfl, rfl⟩
theorem Shape.dcpZp (z : Byte) : Shape.Statement (.dcpZp z) := ⟨rfl, rfl⟩
theorem Shape.iny : Shape.Statement .iny := ⟨rfl, rfl⟩
theorem Shape.cmpImm (v : Byte) : Shape.Statement (.cmpImm v) := ⟨rfl, rfl⟩
theorem Shape.dex : Shape.Statement .dex := ⟨rfl, rfl⟩
theorem Shape.sbxImm (v : Byte) : Shape.Statement (.sbxImm v) := ⟨rfl, rfl⟩
theorem Shape.cpyAbs (w : Addr) : Shape.Statement (.cpyAbs w) := ⟨rfl, rfl⟩
theorem Shape.cmpAbs (w : Addr) : Shape.Statement (.cmpAbs w) := ⟨rfl, rfl⟩
theorem Shape.decAbs (w : Addr) : Shape.Statement (.decAbs w) := ⟨rfl, rfl⟩
theorem Shape.dcpAbs (w : Addr) : Shape.Statement (.dcpAbs w) := ⟨rfl, rfl⟩
theorem Shape.bneRel (d : Byte) : Shape.Statement (.bneRel d) := ⟨rfl, rfl⟩
theorem Shape.cmpIzy (z : Byte) : Shape.Statement (.cmpIzy z) := ⟨rfl, rfl⟩
theorem Shape.dcpIzy (z : Byte) : Shape.Statement (.dcpIzy z) := ⟨rfl, rfl⟩
theorem Shape.nopZpxD4 (z : Byte) : Shape.Statement (.nopZpxD4 z) := ⟨rfl, rfl⟩
theorem Shape.cmpZpx (z : Byte) : Shape.Statement (.cmpZpx z) := ⟨rfl, rfl⟩
theorem Shape.decZpx (z : Byte) : Shape.Statement (.decZpx z) := ⟨rfl, rfl⟩
theorem Shape.dcpZpx (z : Byte) : Shape.Statement (.dcpZpx z) := ⟨rfl, rfl⟩
theorem Shape.cld : Shape.Statement .cld := ⟨rfl, rfl⟩
theorem Shape.cmpAby (w : Addr) : Shape.Statement (.cmpAby w) := ⟨rfl, rfl⟩
theorem Shape.nopImpDA : Shape.Statement .nopImpDA := ⟨rfl, rfl⟩
theorem Shape.dcpAby (w : Addr) : Shape.Statement (.dcpAby w) := ⟨rfl, rfl⟩
theorem Shape.nopAbxDC (w : Addr) : Shape.Statement (.nopAbxDC w) := ⟨rfl, rfl⟩
theorem Shape.cmpAbx (w : Addr) : Shape.Statement (.cmpAbx w) := ⟨rfl, rfl⟩
theorem Shape.decAbx (w : Addr) : Shape.Statement (.decAbx w) := ⟨rfl, rfl⟩
theorem Shape.dcpAbx (w : Addr) : Shape.Statement (.dcpAbx w) := ⟨rfl, rfl⟩
theorem Shape.cpxImm (v : Byte) : Shape.Statement (.cpxImm v) := ⟨rfl, rfl⟩
theorem Shape.sbcIzx (z : Byte) : Shape.Statement (.sbcIzx z) := ⟨rfl, rfl⟩
theorem Shape.nopImmE2 (v : Byte) : Shape.Statement (.nopImmE2 v) := ⟨rfl, rfl⟩
theorem Shape.cpxZp (z : Byte) : Shape.Statement (.cpxZp z) := ⟨rfl, rfl⟩
theorem Shape.sbcZp (z : Byte) : Shape.Statement (.sbcZp z) := ⟨rfl, rfl⟩
theorem Shape.incZp (z : Byte) : Shape.Statement (.incZp z) := ⟨rfl, rfl⟩
theorem Shape.inx : Shape.Statement .inx := ⟨rfl, rfl⟩
theorem Shape.sbcImm (v : Byte) : Shape.Statement (.sbcImm v) := ⟨rfl, rfl⟩
theorem Shape.nop : Shape.Statement .nop := ⟨rfl, rfl⟩
theorem Shape.cpxAbs (w : Addr) : Shape.Statement (.cpxAbs w) := ⟨rfl, rfl⟩
theorem Shape.sbcAbs (w : Addr) : Shape.Statement (.sbcAbs w) := ⟨rfl, rfl⟩
theorem Shape.incAbs (w : Addr) : Shape.Statement (.incAbs w) := ⟨rfl, rfl⟩
theorem Shape.beqRel (d : Byte) : Shape.Statement (.beqRel d) := ⟨rfl, rfl⟩
theorem Shape.sbcIzy (z : Byte) : Shape.Statement (.sbcIzy z) := ⟨rfl, rfl⟩
theorem Shape.nopZpxF4 (z : Byte) : Shape.Statement (.nopZpxF4 z) := ⟨rfl, rfl⟩
theorem Shape.sbcZpx (z : Byte) : Shape.Statement (.sbcZpx z) := ⟨rfl, rfl⟩
theorem Shape.incZpx (z : Byte) : Shape.Statement (.incZpx z) := ⟨rfl, rfl⟩
theorem Shape.sed : Shape.Statement .sed := ⟨rfl, rfl⟩
theorem Shape.sbcAby (w : Addr) : Shape.Statement (.sbcAby w) := ⟨rfl, rfl⟩
theorem Shape.nopImpFA : Shape.Statement .nopImpFA := ⟨rfl, rfl⟩
theorem Shape.nopAbxFC (w : Addr) : Shape.Statement (.nopAbxFC w) := ⟨rfl, rfl⟩
theorem Shape.sbcAbx (w : Addr) : Shape.Statement (.sbcAbx w) := ⟨rfl, rfl⟩
theorem Shape.incAbx (w : Addr) : Shape.Statement (.incAbx w) := ⟨rfl, rfl⟩

end Sys2Proof.Laws
end

