-- ==== Sys2Proof/Tests/Slice0.lean ====
section
/-! SUPPORT. Tests of single steps, with the results of spec/95_test_vectors.md (the id of the vector stands before
each), words decoded by hand from R71 and R77, and a witness for the hypotheses of every statement that has any. -/

namespace Sys2Proof.Tests

open Sys2Proof Sys2Proof.Machine

/-- The default start state of the vectors with `code` at `pc` and the storage bytes `cells` (rising). -/
def boot (pc : Addr) (code : List Byte) (cells : List Host.Cell) : State :=
  pokeBytes code pc { State.reset with pc := pc, mem := cells }

/-- What is seen of the next state, if there is one. -/
def seen {α : Type} (f : State → α) (r : Result State) : Option α :=
  match r with
  | .next t => some (f t)
  | .fault _ => none
  | .refused _ => none

/-- The six flags in the vectors' order. -/
def nvdizc (f : Flags) : Nat :=
  32 * f.n.toNat + 16 * f.v.toNat + 8 * f.d.toNat + 4 * f.i.toNat + 2 * f.z.toNat + f.c.toNat

/-- The flags that a decimal ADC or SBC defines. -/
def dizc (f : Flags) : Nat := 8 * f.d.toNat + 4 * f.i.toNat + 2 * f.z.toNat + f.c.toNat

/-- The flags of six bits in the vectors' order. -/
def flagsOf (k : Nat) : Flags where
  n := k.testBit 5
  v := k.testBit 4
  d := k.testBit 3
  i := k.testBit 2
  z := k.testBit 1
  c := k.testBit 0

/-- `RAM[i]`. -/
def ramAt (s : State) (i : Nat) : Byte := Memory.read s.mem (ramKey i)

/-! Decoding: every term of `Instr` is well formed (WellFormed.lean says why), so there is no ill-formed term to refuse;
what R70, R75 and R80 reject are byte strings, each rejected by name. -/

/-- No byte at all. -/
theorem test_decode_refuses_nothing : decode [] = .error .noBytes := by decide

/-- T185 to T188: bytes 02, EB, AB and FF are not populated. -/
theorem test_decode_refuses_unpopulated :
    decode [0x02] = .error (.unpopulated 0x02) ∧ decode [0xEB, 0x01] = .error (.unpopulated 0xEB) ∧
    decode [0xAB, 0x01] = .error (.unpopulated 0xAB) ∧ decode [0xFF, 0, 0] = .error (.unpopulated 0xFF) := by decide

/-- R70: an operand byte is missing. -/
theorem test_decode_refuses_truncated :
    decode [0xA9] = .error (.truncated 0xA9) ∧ decode [0x4C, 0x00] = .error (.truncated 0x4C) := by decide

/-- R71: `AD 23 F1` is LDA abs F123, low byte first. -/
theorem test_decode_load : decode [0xAD, 0x23, 0xF1] = .ok (.ldaAbs 0xF123, []) := by decide

/-- R77: `94 80` is STY zpx 80. -/
theorem test_decode_store : decode [0x94, 0x80] = .ok (.styZpx 0x80, []) := by decide

/-- R77: `9A` is TXS. -/
theorem test_decode_transfer : decode [0x9A] = .ok (.txs, []) := by decide

/-- R77: `79 00 F1` is ADC aby F100. -/
theorem test_decode_arithmetic : decode [0x79, 0x00, 0xF1] = .ok (.adcAby 0xF100, []) := by decide

/-- R77: `2E 80 00` is ROL abs 0080. -/
theorem test_decode_shift : decode [0x2E, 0x80, 0x00] = .ok (.rolAbs 0x0080, []) := by decide

/-- R77: `F0 7F` is BEQ 7F; `20 10 F0` is JSR F010. -/
theorem test_decode_control :
    decode [0xF0, 0x7F] = .ok (.beqRel 0x7F, []) ∧ decode [0x20, 0x10, 0xF0] = .ok (.jsrAbs 0xF010, []) := by decide

/-- R77: `08` is PHP and `B8` is CLV. -/
theorem test_decode_stack_and_flags : decode [0x08] = .ok (.php, []) ∧ decode [0xB8] = .ok (.clv, []) := by decide

/-- R78: `B7 80` is LAX zpy 80 and `13 80` is SLO izy 80. -/
theorem test_decode_undocumented :
    decode [0xB7, 0x80] = .ok (.laxZpy 0x80, []) ∧ decode [0x13, 0x80] = .ok (.sloIzy 0x80, []) := by decide

/-- The opcode table's numbering: the first byte is bits 7..0. -/
theorem test_decode_table_word : decodeTableWord 24 0x12348D = some (.staAbs 0x1234) := by decide

/-- An instruction placed at the fetch of the state after reset runs. -/
theorem test_with_fetch_word :
    seen (fun t => (t.a, t.pc, t.clock)) (step (State.reset.withFetchWord 16 0x55A9)) = some (0x55, 0xF002, 6) := by decide

/-- R354 with the image of E9: `PC` comes from offsets 0xFFC and 0xFFD. -/
theorem test_reset_vector :
    seen (·.pc) (applyReset { State.powerOn with mem := [(romKey 0xFFD, 0xF0)] }) = some 0xF000 := by decide

/-- T185: the fetch of an unpopulated byte is fatal. -/
theorem test_step_unpopulated : step (boot 0xF000 [0x02] []) = .fault (.unimplementedOpcode 0x02 0xF000) := by rfl

/-- What the decoder reads from the opcode byte `op` followed by the bytes 34 12. -/
def decoded (op : Byte) : Option Instr :=
  match decode [op, 0x34, 0x12] with
  | .ok r => some r.1
  | .error _ => none

/-- The 14 populated bytes of row 0 of the matrix, each as R78 or R79 names it. -/
theorem test_decode_row_0 :
    ([(0x00, .brk), (0x01, .oraIzx 0x34), (0x03, .sloIzx 0x34), (0x04, .nopZp04 0x34), (0x05, .oraZp 0x34),
      (0x06, .aslZp 0x34), (0x07, .sloZp 0x34), (0x08, .php), (0x09, .oraImm 0x34), (0x0A, .aslAcc),
      (0x0C, .nopAbs0C 0x1234), (0x0D, .oraAbs 0x1234), (0x0E, .aslAbs 0x1234), (0x0F, .sloAbs 0x1234)] : List (Byte × Instr)).all
      (fun p => decide (decoded p.1 = some p.2)) = true := by decide

/-- The 15 populated bytes of row 1 of the matrix, each as R78 or R79 names it. -/
theorem test_decode_row_1 :
    ([(0x10, .bplRel 0x34), (0x11, .oraIzy 0x34), (0x13, .sloIzy 0x34), (0x14, .nopZpx14 0x34),
      (0x15, .oraZpx 0x34), (0x16, .aslZpx 0x34), (0x17, .sloZpx 0x34), (0x18, .clc), (0x19, .oraAby 0x1234),
      (0x1A, .nopImp1A), (0x1B, .sloAby 0x1234), (0x1C, .nopAbx1C 0x1234), (0x1D, .oraAbx 0x1234),
      (0x1E, .aslAbx 0x1234), (0x1F, .sloAbx 0x1234)] : List (Byte × Instr)).all
      (fun p => decide (decoded p.1 = some p.2)) = true := by decide

/-- The 11 populated bytes of row 2 of the matrix, each as R78 or R79 names it. -/
theorem test_decode_row_2 :
    ([(0x20, .jsrAbs 0x1234), (0x21, .andIzx 0x34), (0x24, .bitZp 0x34), (0x25, .andZp 0x34),
      (0x26, .rolZp 0x34), (0x28, .plp), (0x29, .andImm 0x34), (0x2A, .rolAcc), (0x2C, .bitAbs 0x1234),
      (0x2D, .andAbs 0x1234), (0x2E, .rolAbs 0x1234)] : List (Byte × Instr)).all
      (fun p => decide (decoded p.1 = some p.2)) = true := by decide

/-- The 11 populated bytes of row 3 of the matrix, each as R78 or R79 names it. -/
theorem test_decode_row_3 :
    ([(0x30, .bmiRel 0x34), (0x31, .andIzy 0x34), (0x34, .nopZpx34 0x34), (0x35, .andZpx 0x34),
      (0x36, .rolZpx 0x34), (0x38, .sec), (0x39, .andAby 0x1234), (0x3A, .nopImp3A), (0x3C, .nopAbx3C 0x1234),
      (0x3D, .andAbx 0x1234), (0x3E, .rolAbx 0x1234)] : List (Byte × Instr)).all
      (fun p => decide (decoded p.1 = some p.2)) = true := by decide

/-- The 12 populated bytes of row 4 of the matrix, each as R78 or R79 names it. -/
theorem test_decode_row_4 :
    ([(0x40, .rti), (0x41, .eorIzx 0x34), (0x44, .nopZp44 0x34), (0x45, .eorZp 0x34), (0x46, .lsrZp 0x34),
      (0x48, .pha), (0x49, .eorImm 0x34), (0x4A, .lsrAcc), (0x4B, .alrImm 0x34), (0x4C, .jmpAbs 0x1234),
      (0x4D, .eorAbs 0x1234), (0x4E, .lsrAbs 0x1234)] : List (Byte × Instr)).all
      (fun p => decide (decoded p.1 = some p.2)) = true := by decide

/-- The 11 populated bytes of row 5 of the matrix, each as R78 or R79 names it. -/
theorem test_decode_row_5 :
    ([(0x50, .bvcRel 0x34), (0x51, .eorIzy 0x34), (0x54, .nopZpx54 0x34), (0x55, .eorZpx 0x34),
      (0x56, .lsrZpx 0x34), (0x58, .cli), (0x59, .eorAby 0x1234), (0x5A, .nopImp5A), (0x5C, .nopAbx5C 0x1234),
      (0x5D, .eorAbx 0x1234), (0x5E, .lsrAbx 0x1234)] : List (Byte × Instr)).all
      (fun p => decide (decoded p.1 = some p.2)) = true := by decide

/-- The 11 populated bytes of row 6 of the matrix, each as R78 or R79 names it. -/
theorem test_decode_row_6 :
    ([(0x60, .rts), (0x61, .adcIzx 0x34), (0x64, .nopZp64 0x34), (0x65, .adcZp 0x34), (0x66, .rorZp 0x34),
      (0x68, .pla), (0x69, .adcImm 0x34), (0x6A, .rorAcc), (0x6C, .jmpInd 0x1234), (0x6D, .adcAbs 0x1234),
      (0x6E, .rorAbs 0x1234)] : List (Byte × Instr)).all
      (fun p => decide (decoded p.1 = some p.2)) = true := by decide

/-- The 11 populated bytes of row 7 of the matrix, each as R78 or R79 names it. -/
theorem test_decode_row_7 :
    ([(0x70, .bvsRel 0x34), (0x71, .adcIzy 0x34), (0x74, .nopZpx74 0x34), (0x75, .adcZpx 0x34),
      (0x76, .rorZpx 0x34), (0x78, .sei), (0x79, .adcAby 0x1234), (0x7A, .nopImp7A), (0x7C, .nopAbx7C 0x1234),
      (0x7D, .adcAbx 0x1234), (0x7E, .rorAbx 0x1234)] : List (Byte × Instr)).all
      (fun p => decide (decoded p.1 = some p.2)) = true := by decide

/-- The 15 populated bytes of row 8 of the matrix, each as R78 or R79 names it. -/
theorem test_decode_row_8 :
    ([(0x80, .nopImm80 0x34), (0x81, .staIzx 0x34), (0x82, .nopImm82 0x34), (0x83, .saxIzx 0x34),
      (0x84, .styZp 0x34), (0x85, .staZp 0x34), (0x86, .stxZp 0x34), (0x87, .saxZp 0x34), (0x88, .dey),
      (0x89, .nopImm89 0x34), (0x8A, .txa), (0x8C, .styAbs 0x1234), (0x8D, .staAbs 0x1234),
      (0x8E, .stxAbs 0x1234), (0x8F, .saxAbs 0x1234)] : List (Byte × Instr)).all
      (fun p => decide (decoded p.1 = some p.2)) = true := by decide

/-- The 10 populated bytes of row 9 of the matrix, each as R78 or R79 names it. -/
theorem test_decode_row_9 :
    ([(0x90, .bccRel 0x34), (0x91, .staIzy 0x34), (0x94, .styZpx 0x34), (0x95, .staZpx 0x34),
      (0x96, .stxZpy 0x34), (0x97, .saxZpy 0x34), (0x98, .tya), (0x99, .staAby 0x1234), (0x9A, .txs),
      (0x9D, .staAbx 0x1234)] : List (Byte × Instr)).all
      (fun p => decide (decoded p.1 = some p.2)) = true := by decide

/-- The 15 populated bytes of row A of the matrix, each as R78 or R79 names it. -/
theorem test_decode_row_a :
    ([(0xA0, .ldyImm 0x34), (0xA1, .ldaIzx 0x34), (0xA2, .ldxImm 0x34), (0xA3, .laxIzx 0x34),
      (0xA4, .ldyZp 0x34), (0xA5, .ldaZp 0x34), (0xA6, .ldxZp 0x34), (0xA7, .laxZp 0x34), (0xA8, .tay),
      (0xA9, .ldaImm 0x34), (0xAA, .tax), (0xAC, .ldyAbs 0x1234), (0xAD, .ldaAbs 0x1234), (0xAE, .ldxAbs 0x1234),
      (0xAF, .laxAbs 0x1234)] : List (Byte × Instr)).all
      (fun p => decide (decoded p.1 = some p.2)) = true := by decide

/-- The 14 populated bytes of row B of the matrix, each as R78 or R79 names it. -/
theorem test_decode_row_b :
    ([(0xB0, .bcsRel 0x34), (0xB1, .ldaIzy 0x34), (0xB3, .laxIzy 0x34), (0xB4, .ldyZpx 0x34),
      (0xB5, .ldaZpx 0x34), (0xB6, .ldxZpy 0x34), (0xB7, .laxZpy 0x34), (0xB8, .clv), (0xB9, .ldaAby 0x1234),
      (0xBA, .tsx), (0xBC, .ldyAbx 0x1234), (0xBD, .ldaAbx 0x1234), (0xBE, .ldxAby 0x1234),
      (0xBF, .laxAby 0x1234)] : List (Byte × Instr)).all
      (fun p => decide (decoded p.1 = some p.2)) = true := by decide

/-- The 16 populated bytes of row C of the matrix, each as R78 or R79 names it. -/
theorem test_decode_row_c :
    ([(0xC0, .cpyImm 0x34), (0xC1, .cmpIzx 0x34), (0xC2, .nopImmC2 0x34), (0xC3, .dcpIzx 0x34),
      (0xC4, .cpyZp 0x34), (0xC5, .cmpZp 0x34), (0xC6, .decZp 0x34), (0xC7, .dcpZp 0x34), (0xC8, .iny),
      (0xC9, .cmpImm 0x34), (0xCA, .dex), (0xCB, .sbxImm 0x34), (0xCC, .cpyAbs 0x1234), (0xCD, .cmpAbs 0x1234),
      (0xCE, .decAbs 0x1234), (0xCF, .dcpAbs 0x1234)] : List (Byte × Instr)).all
      (fun p => decide (decoded p.1 = some p.2)) = true := by decide

/-- The 15 populated bytes of row D of the matrix, each as R78 or R79 names it. -/
theorem test_decode_row_d :
    ([(0xD0, .bneRel 0x34), (0xD1, .cmpIzy 0x34), (0xD3, .dcpIzy 0x34), (0xD4, .nopZpxD4 0x34),
      (0xD5, .cmpZpx 0x34), (0xD6, .decZpx 0x34), (0xD7, .dcpZpx 0x34), (0xD8, .cld), (0xD9, .cmpAby 0x1234),
      (0xDA, .nopImpDA), (0xDB, .dcpAby 0x1234), (0xDC, .nopAbxDC 0x1234), (0xDD, .cmpAbx 0x1234),
      (0xDE, .decAbx 0x1234), (0xDF, .dcpAbx 0x1234)] : List (Byte × Instr)).all
      (fun p => decide (decoded p.1 = some p.2)) = true := by decide

/-- The 12 populated bytes of row E of the matrix, each as R78 or R79 names it. -/
theorem test_decode_row_e :
    ([(0xE0, .cpxImm 0x34), (0xE1, .sbcIzx 0x34), (0xE2, .nopImmE2 0x34), (0xE4, .cpxZp 0x34),
      (0xE5, .sbcZp 0x34), (0xE6, .incZp 0x34), (0xE8, .inx), (0xE9, .sbcImm 0x34), (0xEA, .nop),
      (0xEC, .cpxAbs 0x1234), (0xED, .sbcAbs 0x1234), (0xEE, .incAbs 0x1234)] : List (Byte × Instr)).all
      (fun p => decide (decoded p.1 = some p.2)) = true := by decide

/-- The 11 populated bytes of row F of the matrix, each as R78 or R79 names it. -/
theorem test_decode_row_f :
    ([(0xF0, .beqRel 0x34), (0xF1, .sbcIzy 0x34), (0xF4, .nopZpxF4 0x34), (0xF5, .sbcZpx 0x34),
      (0xF6, .incZpx 0x34), (0xF8, .sed), (0xF9, .sbcAby 0x1234), (0xFA, .nopImpFA), (0xFC, .nopAbxFC 0x1234),
      (0xFD, .sbcAbx 0x1234), (0xFE, .incAbx 0x1234)] : List (Byte × Instr)).all
      (fun p => decide (decoded p.1 = some p.2)) = true := by decide

/-- T1: `LDA #$00`. -/
theorem test_lda_zero_sets_z :
    seen (fun t => (t.pc, t.a, nvdizc t.flags, t.clock))
      (step { boot 0xF000 [0xA9, 0x00] [] with a := 0x55 }) =
      some (0xF002, 0x00, 0b000010, 6) := by decide

/-- T10: `LDA $FFF0,X`. -/
theorem test_lda_abx_wraps_at_the_top :
    seen (fun t => (t.pc, t.a, nvdizc t.flags, t.clock))
      (step { boot 0xF000 [0xBD, 0xF0, 0xFF] [(ramKey 0x00, 0x44)] with x := 0x90 }) =
      some (0xF003, 0x44, 0b000000, 15) := by decide

/-- T4: `LDA $F0,X`. -/
theorem test_lda_zpx_wraps_into_the_tia :
    seen (fun t => (t.pc, t.a, nvdizc t.flags, t.clock))
      (step { boot 0xF000 [0xB5, 0xF0] [] with a := 0x55, x := 0x20 }) =
      some (0xF002, 0x00, 0b000010, 12) := by decide

/-- T12: `LDA ($FF,X)`. -/
theorem test_lda_izx_pointer_wraps :
    seen (fun t => (t.pc, t.a, nvdizc t.flags, t.clock))
      (step { boot 0xF000 [0xA1, 0xFF] [(ramKey 0x7F, 0x80)] with a := 0x55, x := 0x00 }) =
      some (0xF002, 0x00, 0b000010, 18) := by decide

/-- T13: `LDA ($80),Y`. -/
theorem test_lda_izy_crosses :
    seen (fun t => (t.pc, t.a, nvdizc t.flags, t.clock))
      (step { boot 0xF000 [0xB1, 0x80] [(ramKey 0x00, 0xF0), (ramKey 0x01, 0xF1), (romKey 0x210, 0x77)] with y := 0x20 }) =
      some (0xF002, 0x77, 0b000000, 18) := by decide

/-- T14: `LDA ($80),Y`. -/
theorem test_lda_izy_stays :
    seen (fun t => (t.pc, t.a, nvdizc t.flags, t.clock))
      (step { boot 0xF000 [0xB1, 0x80] [(ramKey 0x00, 0xF0), (ramKey 0x01, 0xF1), (romKey 0x1FF, 0x78)] with y := 0x0F }) =
      some (0xF002, 0x78, 0b000000, 15) := by decide

/-- T19: `LDA $2080`. -/
theorem test_lda_abs_mirror :
    seen (fun t => (t.pc, t.a, nvdizc t.flags, t.clock))
      (step (boot 0xF000 [0xAD, 0x80, 0x20] [(ramKey 0x00, 0x6C)])) =
      some (0xF003, 0x6C, 0b000000, 12) := by decide

/-- T15: `LDX $80,Y`. -/
theorem test_ldx_zpy :
    seen (fun t => (t.pc, t.x, nvdizc t.flags, t.clock))
      (step { boot 0xF000 [0xB6, 0x80] [(ramKey 0x05, 0xFF)] with y := 0x05 }) =
      some (0xF002, 0xFF, 0b100000, 12) := by decide

/-- T16: `LDX #$00`. -/
theorem test_ldx_imm :
    seen (fun t => (t.pc, t.x, nvdizc t.flags, t.clock))
      (step { boot 0xF000 [0xA2, 0x00] [] with x := 0x01 }) =
      some (0xF002, 0x00, 0b000010, 6) := by decide

/-- T17: `LDY $F100,X`. -/
theorem test_ldy_abx_stays :
    seen (fun t => (t.pc, t.y, nvdizc t.flags, t.clock))
      (step { boot 0xF000 [0xBC, 0x00, 0xF1] [(romKey 0x1FF, 0x01)] with x := 0xFF }) =
      some (0xF003, 0x01, 0b000000, 12) := by decide

/-- T18: `LDA $0100`. -/
theorem test_lda_abs_stack_window :
    seen (fun t => (t.pc, t.a, nvdizc t.flags, t.clock))
      (step (boot 0xF000 [0xAD, 0x00, 0x01] [(ramKey 0x00, 0x6B)])) =
      some (0xF003, 0x6B, 0b000000, 12) := by decide

/-- T22: `STA $00F0,X`. -/
theorem test_sta_abx_stack_window :
    seen (fun t => (t.pc, ramAt t 0x00, nvdizc t.flags, t.clock))
      (step { boot 0xF000 [0x9D, 0xF0, 0x00] [] with a := 0xAA, x := 0x10 }) =
      some (0xF003, 0xAA, 0b000000, 15) := by decide

/-- T23: `STA ($80),Y`. -/
theorem test_sta_izy :
    seen (fun t => (t.pc, ramAt t 0x11, nvdizc t.flags, t.clock))
      (step { boot 0xF000 [0x91, 0x80] [(ramKey 0x00, 0x90), (ramKey 0x01, 0x00)] with a := 0x5A, y := 0x01 }) =
      some (0xF002, 0x5A, 0b000000, 18) := by decide

/-- T24: `STA ($80,X)`. -/
theorem test_sta_izx :
    seen (fun t => (t.pc, ramAt t 0x05, nvdizc t.flags, t.clock))
      (step { boot 0xF000 [0x81, 0x80] [(ramKey 0x02, 0x85), (ramKey 0x03, 0x00)] with a := 0x5B, x := 0x02 }) =
      some (0xF002, 0x5B, 0b000000, 18) := by decide

/-- T21: `STA $F100,X`. -/
theorem test_sta_rom_discarded :
    seen (fun t => (t.pc, nvdizc t.flags, t.clock))
      (step { boot 0xF000 [0x9D, 0x00, 0xF1] [] with a := 0xAA, x := 0x01 }) =
      some (0xF003, 0b000000, 15) := by decide

/-- T26: `STY $80,X`. -/
theorem test_sty_zpx :
    seen (fun t => (t.pc, ramAt t 0x7F, nvdizc t.flags, t.clock))
      (step { boot 0xF000 [0x94, 0x80] [] with y := 0x34, x := 0x7F }) =
      some (0xF002, 0x34, 0b000000, 12) := by decide

/-- T27: `STY $1234`. -/
theorem test_sty_rom_discarded :
    seen (fun t => (t.pc, nvdizc t.flags, t.clock))
      (step { boot 0xF000 [0x8C, 0x34, 0x12] [] with y := 0x34 }) =
      some (0xF003, 0b000000, 12) := by decide

/-- T28: `TAX`. -/
theorem test_tax :
    seen (fun t => (t.pc, t.x, nvdizc t.flags, t.clock))
      (step { boot 0xF000 [0xAA] [] with a := 0x80 }) =
      some (0xF001, 0x80, 0b100000, 6) := by decide

/-- T29: `TAY`. -/
theorem test_tay :
    seen (fun t => (t.pc, t.y, nvdizc t.flags, t.clock))
      (step { boot 0xF000 [0xA8] [] with a := 0x00, y := 0x01 }) =
      some (0xF001, 0x00, 0b000010, 6) := by decide

/-- T30: `TXA`. -/
theorem test_txa :
    seen (fun t => (t.pc, t.a, nvdizc t.flags, t.clock))
      (step { boot 0xF000 [0x8A] [] with x := 0x7F, a := 0xFF, flags := flagsOf 0b100000 }) =
      some (0xF001, 0x7F, 0b000000, 6) := by decide

/-- T31: `TYA`. -/
theorem test_tya :
    seen (fun t => (t.pc, t.a, nvdizc t.flags, t.clock))
      (step { boot 0xF000 [0x98] [] with y := 0x00, a := 0xFF }) =
      some (0xF001, 0x00, 0b000010, 6) := by decide

/-- T32: `TSX`. -/
theorem test_tsx :
    seen (fun t => (t.pc, t.x, nvdizc t.flags, t.clock))
      (step { boot 0xF000 [0xBA] [] with sp := 0xFF }) =
      some (0xF001, 0xFF, 0b100000, 6) := by decide

/-- T33: `TXS`. -/
theorem test_txs_keeps_flags :
    seen (fun t => (t.pc, t.sp, nvdizc t.flags, t.clock))
      (step { boot 0xF000 [0x9A] [] with x := 0x00, sp := 0xFF, flags := flagsOf 0b100000 }) =
      some (0xF001, 0x00, 0b100000, 6) := by decide

/-- T36: `ADC #$00`. -/
theorem test_adc_carry_in_overflows :
    seen (fun t => (t.pc, t.a, nvdizc t.flags, t.clock))
      (step { boot 0xF000 [0x69, 0x00] [] with a := 0x7F, flags := flagsOf 0b000001 }) =
      some (0xF002, 0x80, 0b110000, 6) := by decide

/-- T54: `ADC #$01`. -/
theorem test_adc_decimal_invalid_digit :
    seen (fun t => (t.pc, t.a, dizc t.flags, t.clock))
      (step { boot 0xF000 [0x69, 0x01] [] with a := 0x0F, flags := flagsOf 0b001000 }) =
      some (0xF002, 0x16, 0b1000, 6) := by decide

/-- T63: `ADC $80`. -/
theorem test_adc_zp :
    seen (fun t => (t.pc, t.a, nvdizc t.flags, t.clock))
      (step { boot 0xF000 [0x65, 0x80] [(ramKey 0x00, 0x02)] with a := 0x01, flags := flagsOf 0b000001 }) =
      some (0xF002, 0x04, 0b000000, 9) := by decide

/-- T45: `SBC #$01`. -/
theorem test_sbc_overflow :
    seen (fun t => (t.pc, t.a, nvdizc t.flags, t.clock))
      (step { boot 0xF000 [0xE9, 0x01] [] with a := 0x80, flags := flagsOf 0b000001 }) =
      some (0xF002, 0x7F, 0b010001, 6) := by decide

/-- T62: `SBC #$34`. -/
theorem test_sbc_decimal :
    seen (fun t => (t.pc, t.a, dizc t.flags, t.clock))
      (step { boot 0xF000 [0xE9, 0x34] [] with a := 0x12, flags := flagsOf 0b001001 }) =
      some (0xF002, 0x78, 0b1000, 6) := by decide

/-- T65: `AND #$0F`. -/
theorem test_and_imm :
    seen (fun t => (t.pc, t.a, nvdizc t.flags, t.clock))
      (step { boot 0xF000 [0x29, 0x0F] [] with a := 0xF0 }) =
      some (0xF002, 0x00, 0b000010, 6) := by decide

/-- T68: `ORA $80`. -/
theorem test_ora_zp :
    seen (fun t => (t.pc, t.a, nvdizc t.flags, t.clock))
      (step { boot 0xF000 [0x05, 0x80] [(ramKey 0x00, 0x80)] with a := 0x01 }) =
      some (0xF002, 0x81, 0b100000, 9) := by decide

/-- T70: `EOR #$FF`. -/
theorem test_eor_imm :
    seen (fun t => (t.pc, t.a, nvdizc t.flags, t.clock))
      (step { boot 0xF000 [0x49, 0xFF] [] with a := 0x55 }) =
      some (0xF002, 0xAA, 0b100000, 6) := by decide

/-- T71: `BIT $80`. -/
theorem test_bit_n_v_from_memory :
    seen (fun t => (t.pc, nvdizc t.flags, t.clock))
      (step { boot 0xF000 [0x24, 0x80] [(ramKey 0x00, 0xC0)] with a := 0x01 }) =
      some (0xF002, 0b110010, 9) := by decide

/-- T73: `BIT $F100`. -/
theorem test_bit_abs_zero :
    seen (fun t => (t.pc, nvdizc t.flags, t.clock))
      (step { boot 0xF000 [0x2C, 0x00, 0xF1] [(romKey 0x100, 0x00)] with a := 0x00 }) =
      some (0xF003, 0b000010, 12) := by decide

/-- T75: `CMP #$11`. -/
theorem test_cmp_less :
    seen (fun t => (t.pc, nvdizc t.flags, t.clock))
      (step { boot 0xF000 [0xC9, 0x11] [] with a := 0x10 }) =
      some (0xF002, 0b100000, 6) := by decide

/-- T76: `CMP #$0F`. -/
theorem test_cmp_keeps_v :
    seen (fun t => (t.pc, nvdizc t.flags, t.clock))
      (step { boot 0xF000 [0xC9, 0x0F] [] with a := 0x10, flags := flagsOf 0b010000 }) =
      some (0xF002, 0b010001, 6) := by decide

/-- T79: `CPX #$80`. -/
theorem test_cpx_imm :
    seen (fun t => (t.pc, nvdizc t.flags, t.clock))
      (step { boot 0xF000 [0xE0, 0x80] [] with x := 0x7F }) =
      some (0xF002, 0b100000, 6) := by decide

/-- T80: `CPX $80`. -/
theorem test_cpx_zp_equal :
    seen (fun t => (t.pc, nvdizc t.flags, t.clock))
      (step { boot 0xF000 [0xE4, 0x80] [(ramKey 0x00, 0x05)] with x := 0x05 }) =
      some (0xF002, 0b000011, 9) := by decide

/-- T81: `CPY #$01`. -/
theorem test_cpy_imm :
    seen (fun t => (t.pc, nvdizc t.flags, t.clock))
      (step { boot 0xF000 [0xC0, 0x01] [] with y := 0x02 }) =
      some (0xF002, 0b000001, 6) := by decide

/-- T82: `CPY $F100`. -/
theorem test_cpy_abs :
    seen (fun t => (t.pc, nvdizc t.flags, t.clock))
      (step { boot 0xF000 [0xCC, 0x00, 0xF1] [(romKey 0x100, 0x00)] with y := 0x00 }) =
      some (0xF003, 0b000011, 12) := by decide

/-- T83: `INC $80`. -/
theorem test_inc_wraps :
    seen (fun t => (t.pc, ramAt t 0x00, nvdizc t.flags, t.clock))
      (step (boot 0xF000 [0xE6, 0x80] [(ramKey 0x00, 0xFF)])) =
      some (0xF002, 0x00, 0b000010, 15) := by decide

/-- T85: `INC $0080,X`. -/
theorem test_inc_abx_seven_cycles :
    seen (fun t => (t.pc, ramAt t 0x01, nvdizc t.flags, t.clock))
      (step { boot 0xF000 [0xFE, 0x80, 0x00] [(ramKey 0x01, 0x00)] with x := 0x01 }) =
      some (0xF003, 0x01, 0b000000, 21) := by decide

/-- T86: `DEC $80`. -/
theorem test_dec_wraps :
    seen (fun t => (t.pc, ramAt t 0x00, nvdizc t.flags, t.clock))
      (step (boot 0xF000 [0xC6, 0x80] [(ramKey 0x00, 0x00)])) =
      some (0xF002, 0xFF, 0b100000, 15) := by decide

/-- T88: `INX`. -/
theorem test_inx :
    seen (fun t => (t.pc, t.x, nvdizc t.flags, t.clock))
      (step { boot 0xF000 [0xE8] [] with x := 0xFF }) =
      some (0xF001, 0x00, 0b000010, 6) := by decide

/-- T89: `INY`. -/
theorem test_iny :
    seen (fun t => (t.pc, t.y, nvdizc t.flags, t.clock))
      (step { boot 0xF000 [0xC8] [] with y := 0x7F }) =
      some (0xF001, 0x80, 0b100000, 6) := by decide

/-- T90: `DEX`. -/
theorem test_dex :
    seen (fun t => (t.pc, t.x, nvdizc t.flags, t.clock))
      (step { boot 0xF000 [0xCA] [] with x := 0x00 }) =
      some (0xF001, 0xFF, 0b100000, 6) := by decide

/-- T91: `DEY`. -/
theorem test_dey :
    seen (fun t => (t.pc, t.y, nvdizc t.flags, t.clock))
      (step { boot 0xF000 [0x88] [] with y := 0x01 }) =
      some (0xF001, 0x00, 0b000010, 6) := by decide

/-- T92: `ASL A`. -/
theorem test_asl_acc :
    seen (fun t => (t.pc, t.a, nvdizc t.flags, t.clock))
      (step { boot 0xF000 [0x0A] [] with a := 0x81 }) =
      some (0xF001, 0x02, 0b000001, 6) := by decide

/-- T105: `ASL $00F0,X`. -/
theorem test_asl_abx_crossing_costs_seven :
    seen (fun t => (t.pc, ramAt t 0x00, nvdizc t.flags, t.clock))
      (step { boot 0xF000 [0x1E, 0xF0, 0x00] [(ramKey 0x00, 0xC0)] with x := 0x10 }) =
      some (0xF003, 0x80, 0b100001, 21) := by decide

/-- T96: `LSR A`. -/
theorem test_lsr_acc_clears_n :
    seen (fun t => (t.pc, t.a, nvdizc t.flags, t.clock))
      (step { boot 0xF000 [0x4A] [] with a := 0xFE, flags := flagsOf 0b100000 }) =
      some (0xF001, 0x7F, 0b000000, 6) := by decide

/-- T102: `LSR $80,X`. -/
theorem test_lsr_zpx :
    seen (fun t => (t.pc, ramAt t 0x03, nvdizc t.flags, t.clock))
      (step { boot 0xF000 [0x56, 0x80] [(ramKey 0x03, 0x03)] with x := 0x03 }) =
      some (0xF002, 0x01, 0b000001, 18) := by decide

/-- T97: `ROL A`. -/
theorem test_rol_acc :
    seen (fun t => (t.pc, t.a, nvdizc t.flags, t.clock))
      (step { boot 0xF000 [0x2A] [] with a := 0x80, flags := flagsOf 0b000001 }) =
      some (0xF001, 0x01, 0b000001, 6) := by decide

/-- T103: `ROL $0080`. -/
theorem test_rol_abs :
    seen (fun t => (t.pc, ramAt t 0x00, nvdizc t.flags, t.clock))
      (step { boot 0xF000 [0x2E, 0x80, 0x00] [(ramKey 0x00, 0x7F)] with flags := flagsOf 0b000001 }) =
      some (0xF003, 0xFF, 0b100000, 18) := by decide

/-- T99: `ROR A`. -/
theorem test_ror_acc :
    seen (fun t => (t.pc, t.a, nvdizc t.flags, t.clock))
      (step { boot 0xF000 [0x6A] [] with a := 0x01, flags := flagsOf 0b000001 }) =
      some (0xF001, 0x80, 0b100001, 6) := by decide

/-- T104: `ROR $0080,X`. -/
theorem test_ror_abx :
    seen (fun t => (t.pc, ramAt t 0x7F, nvdizc t.flags, t.clock))
      (step { boot 0xF000 [0x7E, 0x80, 0x00] [(ramKey 0x7F, 0x02)] with x := 0x7F, flags := flagsOf 0b000001 }) =
      some (0xF003, 0x81, 0b100000, 21) := by decide

/-- T106: `BPL *+6`. -/
theorem test_bpl_taken :
    seen (fun t => (t.pc, nvdizc t.flags, t.clock))
      (step (boot 0xF000 [0x10, 0x04] [])) =
      some (0xF006, 0b000000, 9) := by decide

/-- T107: `BPL *+6`. -/
theorem test_bpl_not_taken :
    seen (fun t => (t.pc, nvdizc t.flags, t.clock))
      (step { boot 0xF000 [0x10, 0x04] [] with flags := flagsOf 0b100000 }) =
      some (0xF002, 0b100000, 6) := by decide

/-- T108: `BMI *+6`. -/
theorem test_bmi_taken :
    seen (fun t => (t.pc, nvdizc t.flags, t.clock))
      (step { boot 0xF000 [0x30, 0x04] [] with flags := flagsOf 0b100000 }) =
      some (0xF006, 0b100000, 9) := by decide

/-- T110: `BVC *+6`. -/
theorem test_bvc_taken :
    seen (fun t => (t.pc, nvdizc t.flags, t.clock))
      (step (boot 0xF000 [0x50, 0x04] [])) =
      some (0xF006, 0b000000, 9) := by decide

/-- T112: `BVS *+6`. -/
theorem test_bvs_taken :
    seen (fun t => (t.pc, nvdizc t.flags, t.clock))
      (step { boot 0xF000 [0x70, 0x04] [] with flags := flagsOf 0b010000 }) =
      some (0xF006, 0b010000, 9) := by decide

/-- T125: `BCC *+2`. -/
theorem test_bcc_zero_displacement :
    seen (fun t => (t.pc, nvdizc t.flags, t.clock))
      (step (boot 0xF000 [0x90, 0x00] [])) =
      some (0xF002, 0b000000, 9) := by decide

/-- T116: `BCS *+6`. -/
theorem test_bcs_taken :
    seen (fun t => (t.pc, nvdizc t.flags, t.clock))
      (step { boot 0xF000 [0xB0, 0x04] [] with flags := flagsOf 0b000001 }) =
      some (0xF006, 0b000001, 9) := by decide

/-- T124: `BNE *-126`. -/
theorem test_bne_backwards_across_a_page :
    seen (fun t => (t.pc, nvdizc t.flags, t.clock))
      (step (boot 0xF100 [0xD0, 0x80] [])) =
      some (0xF082, 0b000000, 12) := by decide

/-- T127: `BNE *+3`. -/
theorem test_bne_page_measured_from_next :
    seen (fun t => (t.pc, nvdizc t.flags, t.clock))
      (step (boot 0xF0FE [0xD0, 0x01] [])) =
      some (0xF101, 0b000000, 9) := by decide

/-- T123: `BEQ *+129`. -/
theorem test_beq_across_a_page :
    seen (fun t => (t.pc, nvdizc t.flags, t.clock))
      (step { boot 0xF0F0 [0xF0, 0x7F] [] with flags := flagsOf 0b000010 }) =
      some (0xF171, 0b000010, 12) := by decide

/-- T129: `JMP $F234`. -/
theorem test_jmp_abs :
    seen (fun t => (t.pc, nvdizc t.flags, t.clock))
      (step (boot 0xF000 [0x4C, 0x34, 0xF2] [])) =
      some (0xF234, 0b000000, 9) := by decide

/-- T131: `JMP ($F1FF)`. -/
theorem test_jmp_ind_page_wrap :
    seen (fun t => (t.pc, nvdizc t.flags, t.clock))
      (step (boot 0xF000 [0x6C, 0xFF, 0xF1] [(romKey 0x1FF, 0x00), (romKey 0x100, 0xF3), (romKey 0x200, 0xF4)])) =
      some (0xF300, 0b000000, 15) := by decide

/-- T134: `JSR $F010`. -/
theorem test_jsr_stack_wraps :
    seen (fun t => (t.pc, t.sp, [ramAt t 0x00, ramAt t 0x7F], nvdizc t.flags, t.clock))
      (step { boot 0xF000 [0x20, 0x10, 0xF0] [] with sp := 0x00 }) =
      some (0xF010, 0xFE, [0xF0, 0x02], 0b000000, 18) := by decide

/-- T135: `RTS`. -/
theorem test_rts :
    seen (fun t => (t.pc, t.sp, nvdizc t.flags, t.clock))
      (step { boot 0xF000 [0x60] [(ramKey 0x7E, 0x05), (ramKey 0x7F, 0xF0)] with sp := 0xFD }) =
      some (0xF006, 0xFF, 0b000000, 18) := by decide

/-- T136: `RTS`. -/
theorem test_rts_wraps :
    seen (fun t => (t.pc, t.sp, nvdizc t.flags, t.clock))
      (step { boot 0xF000 [0x60] [(ramKey 0x7E, 0xFF), (ramKey 0x7F, 0xFF)] with sp := 0xFD }) =
      some (0x0000, 0xFF, 0b000000, 18) := by decide

/-- T137: `BRK`. -/
theorem test_brk :
    seen (fun t => (t.pc, t.sp, [ramAt t 0x7D, ramAt t 0x7E, ramAt t 0x7F], nvdizc t.flags, t.clock))
      (step { boot 0xF100 [0x00] [(romKey 0xFFF, 0xF2)] with sp := 0xFF, flags := flagsOf 0b000011 }) =
      some (0xF200, 0xFC, [0x33, 0x02, 0xF1], 0b000111, 21) := by decide

/-- T138: `BRK`. -/
theorem test_brk_keeps_d :
    seen (fun t => (t.pc, t.sp, [ramAt t 0x7D, ramAt t 0x7E, ramAt t 0x7F], nvdizc t.flags, t.clock))
      (step { boot 0xF100 [0x00] [(romKey 0xFFF, 0xF2)] with sp := 0xFF, flags := flagsOf 0b101100 }) =
      some (0xF200, 0xFC, [0xBC, 0x02, 0xF1], 0b101100, 21) := by decide

/-- T139: `RTI`. -/
theorem test_rti :
    seen (fun t => (t.pc, t.sp, nvdizc t.flags, t.clock))
      (step { boot 0xF000 [0x40] [(ramKey 0x7D, 0x33), (ramKey 0x7E, 0x02), (ramKey 0x7F, 0xF1)] with sp := 0xFC, flags := flagsOf 0b000100 }) =
      some (0xF102, 0xFF, 0b000011, 18) := by decide

/-- T140: `RTI`. -/
theorem test_rti_discards_bits :
    seen (fun t => (t.pc, t.sp, nvdizc t.flags, t.clock))
      (step { boot 0xF000 [0x40] [(ramKey 0x7D, 0xCF), (ramKey 0x7E, 0x00), (ramKey 0x7F, 0x10)] with sp := 0xFC }) =
      some (0x1000, 0xFF, 0b111111, 18) := by decide

/-- T142: `PHA`. -/
theorem test_pha_at_zero :
    seen (fun t => (t.pc, t.sp, ramAt t 0x00, nvdizc t.flags, t.clock))
      (step { boot 0xF000 [0x48] [] with a := 0x42, sp := 0x00 }) =
      some (0xF001, 0xFF, 0x42, 0b000000, 9) := by decide

/-- T144: `PHP`. -/
theorem test_php :
    seen (fun t => (t.pc, t.sp, ramAt t 0x7F, nvdizc t.flags, t.clock))
      (step { boot 0xF000 [0x08] [] with sp := 0xFF, flags := flagsOf 0b100101 }) =
      some (0xF001, 0xFE, 0xB5, 0b100101, 9) := by decide

/-- T146: `PLA`. -/
theorem test_pla :
    seen (fun t => (t.pc, t.a, t.sp, nvdizc t.flags, t.clock))
      (step { boot 0xF000 [0x68] [(ramKey 0x7F, 0x00)] with sp := 0xFE, a := 0x55 }) =
      some (0xF001, 0x00, 0xFF, 0b000010, 12) := by decide

/-- T147: `PLA`. -/
theorem test_pla_wraps :
    seen (fun t => (t.pc, t.a, t.sp, nvdizc t.flags, t.clock))
      (step { boot 0xF000 [0x68] [(ramKey 0x00, 0x80)] with sp := 0xFF }) =
      some (0xF001, 0x80, 0x00, 0b100000, 12) := by decide

/-- T148: `PLP`. -/
theorem test_plp :
    seen (fun t => (t.pc, t.sp, nvdizc t.flags, t.clock))
      (step { boot 0xF000 [0x28] [(ramKey 0x7F, 0xFF)] with sp := 0xFE }) =
      some (0xF001, 0xFF, 0b111111, 12) := by decide

/-- T149: `PLP`. -/
theorem test_plp_clears :
    seen (fun t => (t.pc, t.sp, nvdizc t.flags, t.clock))
      (step { boot 0xF000 [0x28] [(ramKey 0x7F, 0x30)] with sp := 0xFE, flags := flagsOf 0b111111 }) =
      some (0xF001, 0xFF, 0b000000, 12) := by decide

/-- T151: `CLC`. -/
theorem test_clc :
    seen (fun t => (t.pc, nvdizc t.flags, t.clock))
      (step { boot 0xF000 [0x18] [] with flags := flagsOf 0b111111 }) =
      some (0xF001, 0b111110, 6) := by decide

/-- T152: `SEC`. -/
theorem test_sec :
    seen (fun t => (t.pc, nvdizc t.flags, t.clock))
      (step (boot 0xF000 [0x38] [])) =
      some (0xF001, 0b000001, 6) := by decide

/-- T153: `CLI`. -/
theorem test_cli :
    seen (fun t => (t.pc, nvdizc t.flags, t.clock))
      (step { boot 0xF000 [0x58] [] with flags := flagsOf 0b111111 }) =
      some (0xF001, 0b111011, 6) := by decide

/-- T154: `SEI`. -/
theorem test_sei :
    seen (fun t => (t.pc, nvdizc t.flags, t.clock))
      (step (boot 0xF000 [0x78] [])) =
      some (0xF001, 0b000100, 6) := by decide

/-- T155: `CLD`. -/
theorem test_cld :
    seen (fun t => (t.pc, nvdizc t.flags, t.clock))
      (step { boot 0xF000 [0xD8] [] with flags := flagsOf 0b111111 }) =
      some (0xF001, 0b110111, 6) := by decide

/-- T156: `SED`. -/
theorem test_sed :
    seen (fun t => (t.pc, nvdizc t.flags, t.clock))
      (step (boot 0xF000 [0xF8] [])) =
      some (0xF001, 0b001000, 6) := by decide

/-- T157: `CLV`. -/
theorem test_clv :
    seen (fun t => (t.pc, nvdizc t.flags, t.clock))
      (step { boot 0xF000 [0xB8] [] with flags := flagsOf 0b111111 }) =
      some (0xF001, 0b101111, 6) := by decide

/-- T158: `NOP`. -/
theorem test_nop :
    seen (fun t => (t.pc, nvdizc t.flags, t.clock))
      (step { boot 0xF000 [0xEA] [] with a := 0x12, flags := flagsOf 0b111111 }) =
      some (0xF001, 0b111111, 6) := by decide

/-- T160: `SLO $80,X`. -/
theorem test_slo_zpx :
    seen (fun t => (t.pc, ramAt t 0x01, nvdizc t.flags, t.clock))
      (step { boot 0xF000 [0x17, 0x80] [(ramKey 0x01, 0x80)] with a := 0x00, x := 0x01 }) =
      some (0xF002, 0x00, 0b000011, 18) := by decide

/-- T162: `SLO ($80),Y`. -/
theorem test_slo_izy :
    seen (fun t => (t.pc, t.a, ramAt t 0x11, nvdizc t.flags, t.clock))
      (step { boot 0xF000 [0x13, 0x80] [(ramKey 0x00, 0x90), (ramKey 0x01, 0x00), (ramKey 0x11, 0x40)] with a := 0x00, y := 0x01 }) =
      some (0xF002, 0x80, 0x80, 0b100000, 24) := by decide

/-- T164: `LAX $80,Y`. -/
theorem test_lax_zpy :
    seen (fun t => (t.pc, t.a, t.x, nvdizc t.flags, t.clock))
      (step { boot 0xF000 [0xB7, 0x80] [(ramKey 0x01, 0x00)] with y := 0x01, a := 0xFF, x := 0xFF }) =
      some (0xF002, 0x00, 0x00, 0b000010, 12) := by decide

/-- T165: `LAX $F1F0,Y`. -/
theorem test_lax_aby_crosses :
    seen (fun t => (t.pc, t.a, t.x, nvdizc t.flags, t.clock))
      (step { boot 0xF000 [0xBF, 0xF0, 0xF1] [(romKey 0x200, 0x22)] with y := 0x10 }) =
      some (0xF003, 0x22, 0x22, 0b000000, 15) := by decide

/-- T166: `ALR #$03`. -/
theorem test_alr :
    seen (fun t => (t.pc, t.a, nvdizc t.flags, t.clock))
      (step { boot 0xF000 [0x4B, 0x03] [] with a := 0xFF }) =
      some (0xF002, 0x01, 0b000001, 6) := by decide

/-- T168: `ALR #$FE`. -/
theorem test_alr_clears_n :
    seen (fun t => (t.pc, t.a, nvdizc t.flags, t.clock))
      (step { boot 0xF000 [0x4B, 0xFE] [] with a := 0xFF, flags := flagsOf 0b100000 }) =
      some (0xF002, 0x7F, 0b000000, 6) := by decide

/-- T170: `SBX #$01`. -/
theorem test_sbx_is_binary :
    seen (fun t => (t.pc, t.x, nvdizc t.flags, t.clock))
      (step { boot 0xF000 [0xCB, 0x01] [] with a := 0xF0, x := 0x0F, flags := flagsOf 0b011000 }) =
      some (0xF002, 0xFF, 0b111000, 6) := by decide

/-- T171: `SBX #$10`. -/
theorem test_sbx_ignores_carry :
    seen (fun t => (t.pc, t.x, nvdizc t.flags, t.clock))
      (step { boot 0xF000 [0xCB, 0x10] [] with a := 0xFF, x := 0x10 }) =
      some (0xF002, 0x00, 0b000011, 6) := by decide

/-- T172: `SAX $80`. -/
theorem test_sax_zp :
    seen (fun t => (t.pc, ramAt t 0x00, nvdizc t.flags, t.clock))
      (step { boot 0xF000 [0x87, 0x80] [] with a := 0xF0, x := 0x3C }) =
      some (0xF002, 0x30, 0b000000, 9) := by decide

/-- T174: `SAX ($80,X)`. -/
theorem test_sax_izx :
    seen (fun t => (t.pc, ramAt t 0x10, nvdizc t.flags, t.clock))
      (step { boot 0xF000 [0x83, 0x80] [(ramKey 0x03, 0x90), (ramKey 0x04, 0x00)] with a := 0x0F, x := 0x03 }) =
      some (0xF002, 0x03, 0b000000, 18) := by decide

/-- T176: `DCP $80`. -/
theorem test_dcp_wraps :
    seen (fun t => (t.pc, ramAt t 0x00, nvdizc t.flags, t.clock))
      (step { boot 0xF000 [0xC7, 0x80] [(ramKey 0x00, 0x00)] with a := 0xFF }) =
      some (0xF002, 0xFF, 0b000011, 15) := by decide

/-- T177: `DCP $0080,X`. -/
theorem test_dcp_abx :
    seen (fun t => (t.pc, ramAt t 0x01, nvdizc t.flags, t.clock))
      (step { boot 0xF000 [0xDF, 0x80, 0x00] [(ramKey 0x01, 0x02)] with a := 0x00, x := 0x01 }) =
      some (0xF003, 0x01, 0b100000, 21) := by decide

/-- T178: `NOP (1A)`. -/
theorem test_nop_1a :
    seen (fun t => (t.pc, nvdizc t.flags, t.clock))
      (step { boot 0xF000 [0x1A] [] with flags := flagsOf 0b111111 }) =
      some (0xF001, 0b111111, 6) := by decide

/-- T179: `NOP #$FF (80)`. -/
theorem test_nop_80 :
    seen (fun t => (t.pc, nvdizc t.flags, t.clock))
      (step (boot 0xF000 [0x80, 0xFF] [])) =
      some (0xF002, 0b000000, 6) := by decide

/-- T180: `NOP $80 (04)`. -/
theorem test_nop_04 :
    seen (fun t => (t.pc, nvdizc t.flags, t.clock))
      (step (boot 0xF000 [0x04, 0x80] [(ramKey 0x00, 0xFF)])) =
      some (0xF002, 0b000000, 9) := by decide

/-- T181: `NOP $80,X (14)`. -/
theorem test_nop_14 :
    seen (fun t => (t.pc, nvdizc t.flags, t.clock))
      (step { boot 0xF000 [0x14, 0x80] [] with x := 0x01 }) =
      some (0xF002, 0b000000, 12) := by decide

/-- T182: `NOP $1FF8 (0C)`. -/
theorem test_nop_0c :
    seen (fun t => (t.pc, nvdizc t.flags, t.clock))
      (step (boot 0xF000 [0x0C, 0xF8, 0x1F] [])) =
      some (0xF003, 0b000000, 12) := by decide

/-- T184: `NOP $F1F0,X (1C)`. -/
theorem test_nop_1c_crosses :
    seen (fun t => (t.pc, nvdizc t.flags, t.clock))
      (step { boot 0xF000 [0x1C, 0xF0, 0xF1] [] with x := 0x10 }) =
      some (0xF003, 0b000000, 15) := by decide

/-- A state about to make a TIA access at Clock `clock`, the TIA having caught up. -/
def beam (clock : Nat) (t : Tia) : State := { State.reset with clock := clock, tia := { t with lastUpdate := clock } }

/-- V4, V7, V8, V3: RESP0 at `h` = 68, 222, 223 and in the blank. -/
theorem test_resp0 :
    seen (·.tia.resp.zero) (busWrite 0x10 0 (beam 68 Tia.powerOn)) = some 5 ∧
    seen (·.tia.resp.zero) (busWrite 0x10 0 (beam 222 Tia.powerOn)) = some 159 ∧
    seen (·.tia.resp.zero) (busWrite 0x10 0 (beam 223 Tia.powerOn)) = some 0 ∧
    seen (·.tia.resp.zero) (busWrite 0x10 0 (beam 67 Tia.powerOn)) = some 3 := by decide

/-- V13, V19: RESM1 wraps at 160, RESBL at 228. -/
theorem test_resm1_resbl :
    seen (·.tia.resm.one) (busWrite 0x13 0 (beam 223 Tia.powerOn)) = some 159 ∧
    seen (·.tia.resbl) (busWrite 0x14 0 (beam 227 Tia.powerOn)) = some 163 := by decide

/-- V20, V22, V25: WSYNC on a boundary, in the first line and in a later one. -/
theorem test_wsync :
    seen (·.clock) (busWrite 0x02 0 (beam 0 Tia.powerOn)) = some 0 ∧
    seen (·.clock) (busWrite 0x02 0 (beam 109 Tia.powerOn)) = some 228 ∧
    seen (·.clock) (busWrite 0x02 0 (beam 1249 Tia.powerOn)) = some 1368 := by decide

/-- Player 0 at `pos`, with the motion byte `m` in LineState. -/
def moving (pos : Nat) (m : Byte) : Tia :=
  { Tia.powerOn with resp := ⟨pos, 0⟩, line := { Tia.powerOn.line with hmp := ⟨m, 0⟩ } }

/-- V28, V29, V34, V36, V38: HMOVE to the left and right, its wrap, and the quirk of CPU cycle 73. -/
theorem test_hmove :
    seen (·.tia.resp.zero) (busWrite 0x2A 0 (beam 237 (moving 80 0x70))) = some 73 ∧
    seen (·.tia.resp.zero) (busWrite 0x2A 0 (beam 237 (moving 80 0x80))) = some 88 ∧
    seen (·.tia.resp.zero) (busWrite 0x2A 0 (beam 237 (moving 2 0x70))) = some 155 ∧
    seen (·.tia.resp.zero) (busWrite 0x2A 0 (beam 447 (moving 80 0x70))) = some 65 ∧
    seen (·.tia.resp.zero) (busWrite 0x2A 0 (beam 446 (moving 80 0x70))) = some 73 := by decide

/-- V46, V48: VSYNC on flushes, VSYNC off sets the frame origin. -/
theorem test_vsync :
    seen (fun t => (t.tia.isVsync, t.events, t.tia.screenStart)) (busWrite 0x00 0x02 (beam 1000 Tia.powerOn)) =
      some (true, [.audioStep, .displayFlush []], 0) ∧
    seen (fun t => (t.tia.isVsync, t.tia.screenStart)) (busWrite 0x00 0 (beam 1500 { Tia.powerOn with isVsync := true })) =
      some (false, 1368) := by decide

/-- V51, V52, V53: the refused writes. -/
theorem test_refused_writes :
    busWrite 0x03 0 (beam 10 Tia.powerOn) = .refused .rsyncWrite ∧
    busWrite 0x28 0x02 (beam 10 Tia.powerOn) = .refused (.resmpLock .zero) ∧
    busWrite 0x29 0x02 (beam 10 Tia.powerOn) = .refused (.resmpLock .one) := ⟨rfl, rfl, rfl⟩

/-- V55, V57, V59: a mirror of COLUBK, and what GRP1 latches. -/
theorem test_registers :
    seen (·.tia.colubk) (busWrite 0x0049 0x1E (beam 10 Tia.powerOn)) = some 0x1E ∧
    seen (fun t => (t.tia.grp, t.tia.grpOld, t.tia.enablOld))
      (busWrite 0x1C 0x55 (beam 20 { Tia.powerOn with grp := ⟨0xAA, 0⟩, enabl := 0x02 })) =
      some (⟨0xAA, 0x55⟩, ⟨0xAA, 0x00⟩, 0x02) := by decide

/-- S2: the mirrored playfield at 48..51 and 108..111 (PF2 bit 0 alone lies at 48..51 and 108..111). -/
theorem test_playfield :
    (List.range' 104 12).filter { Tia.powerOn with pf2 := 0x01, ctrlpf := 0x01 }.playfield = [108, 109, 110, 111] ∧
    (List.range 8).filter { Tia.powerOn with pf0 := 0x10 }.playfield = [0, 1, 2, 3] := by decide

/-- S21, S19: a quad-size player that wraps, and a reflected one. -/
theorem test_player :
    ([0, 23, 24, 27, 28, 155, 156, 159].filter
      ({ Tia.powerOn with grp := ⟨0x81, 0⟩, nusiz := ⟨7, 0⟩, resp := ⟨156, 0⟩ }.player .zero)) = [24, 27, 156, 159] ∧
    (List.range 8).filter ({ Tia.powerOn with grp := ⟨0x01, 0⟩, refp := ⟨0x08, 0⟩ }.player .zero) = [0] := by decide

/-- S24, S27: missile 1 wraps; a missile without its enable bit. -/
theorem test_missile :
    [0, 1, 2, 157, 158, 159].filter
      ({ Tia.powerOn with enam := ⟨0, 2⟩, nusiz := ⟨0, 0x20⟩, resm := ⟨0, 158⟩ }.missile .one) = [0, 1, 158, 159] ∧
    { Tia.powerOn with enam := ⟨1, 0⟩ }.missile .zero 0 = false := by decide

/-- S29, S31: the ball wraps at 228; the delayed ball. -/
theorem test_ball :
    (List.range 4).filter { Tia.powerOn with enabl := 2, ctrlpf := 0x20, resbl := 226 }.ball = [0, 1] ∧
    { Tia.powerOn with enablOld := 2, vdelbl := 1, resbl := 50 }.ball 50 = true := by decide

/-- The colours of K1 to K12. -/
def colours (ctrlpf : Byte) : LineState := { Tia.powerOn.line with
  pColor := ⟨0x10, 0x20⟩, playfieldColor := 0x30, backgroundColor := 0x40, ctrlpf := ctrlpf }

/-- K1, K8, K9, K11: the two draw orders. -/
theorem test_composite :
    composite ⟨false, false, false, false, false, false⟩ (colours 0) = 0x40 ∧
    composite ⟨false, false, false, false, true, true⟩ (colours 4) = 0x20 ∧
    composite ⟨true, false, false, false, true, false⟩ (colours 0) = 0x10 ∧
    composite ⟨true, false, true, false, false, true⟩ (colours 4) = 0x30 := by decide

/-- X17: playfield, missile 0 and player 0 at one pixel. -/
theorem test_collision :
    updateCollisions ⟨true, false, true, false, true, false⟩ Tia.powerOn.latch =
      ⟨⟨0x40, 0⟩, ⟨0x80, 0⟩, ⟨0x80, 0⟩, 0, 0⟩ := by decide

/-- R284: a catch-up from tick 67 to 70 paints pixels 0 and 1 with the LineState's background. -/
theorem test_catch_up :
    ({ Tia.powerOn with line := colours 0, lastUpdate := 67 }.catchUp launchParams 70).display = [(0, 0x40), (1, 0x40)] := by
  decide

/-! The launch parameters `CYCLE_TO_CLOCK` and `POPULATED`, and the RIOT write address. -/

/-- R5, R212: a NOP takes `2 * CYCLE_TO_CLOCK` ticks. -/
theorem test_cycle_to_clock :
    seen (·.clock) (step { boot 0xF000 [0xEA] [] with params := { launchParams with cycleToClock := 4 } }) = some 8 := by
  decide

/-- R76: an opcode byte taken out of `POPULATED` is fatal, one left in it is not. -/
theorem test_narrowed_populated :
    step { boot 0xF000 [0xEA] [] with params := { launchParams with populated := [0x00] } } =
      .fault (.unimplementedOpcode 0xEA 0xF000) ∧
    seen (·.pc) (step { boot 0xF000 [0xEA] [] with params := { launchParams with populated := [0xEA] } }) = some 0xF001 :=
  ⟨rfl, rfl⟩

/-- R40, R53: a RIOT write through an image of 0x0296. -/
theorem test_riot_write_image :
    seen (·.events) (busWrite 0xE296 0x12 State.reset) = some [.riotWrite 0x0296 0x12 0] := by decide

/-- R50, R51: a ROM write is discarded by the single-bank cartridge. -/
theorem test_rom_write_discarded :
    seen (fun t => t.peek 0xF000) (busWrite 0xF000 0x12 (boot 0xF000 [0xEA] [])) = some (some 0xEA) := by decide

/-- R33, R352, R356: what power-on fixes whatever the launch gives, and the ranges of the positions. -/
theorem test_power_on :
    let u := { State.reset with clock := 9, x := 7, tia := { Tia.powerOn with lastUpdate := 5, screenStart := 228, isVsync := true, resbl := 227, resp := ⟨159, 160⟩ } }
    let t := State.atPowerOn launchParams u
    (t.clock, t.x, t.tia.lastUpdate, t.tia.screenStart, t.tia.isVsync, t.tia.resbl, t.tia.resp) =
      (0, 7, 0, 0, false, 227, ⟨159, 0⟩) := rfl

/-- R262, R263, D33: bits 5:0 of a collision port read zero, and bit 6 of CXBLPF too, whatever the latch bytes hold. -/
theorem test_latch_reads :
    let c : Latches := ⟨⟨0xFF, 0x7F⟩, ⟨0, 0⟩, ⟨0, 0⟩, 0xFF, 0xBF⟩
    [0x0, 0x1, 0x6, 0x7].map (fun r => (tiaRead r (beam 10 { Tia.powerOn with latch := c })).1) = [0xC0, 0x40, 0x80, 0x80] ∧
    ({ Tia.powerOn with latch := c } : Tia).atPowerOn.latch = ⟨⟨0xC0, 0x40⟩, ⟨0, 0⟩, ⟨0, 0⟩, 0x80, 0x80⟩ := ⟨rfl, rfl⟩
/-! Witnesses: each shows states and operands that meet all the hypotheses of a statement together, one for each clause
and at the ends of a clause's range. -/

/-- The state of most witnesses: `LDA #$55` at F000. -/
def plain : State := boot 0xF000 [0xA9, 0x55] []

theorem plain_defaultBus : plain.DefaultBus := ⟨rfl, rfl⟩

/-- Every operand of `plain` is readable. -/
theorem plain_reads (o : Operand) : ∃ v t, plain.ReadsOperand o v t := State.readsOperand_answers plain_defaultBus o

theorem test_witness_EncodeInvertsDecode : decode [0xAD, 0x23, 0xF1, 0xFF] = .ok (.ldaAbs 0xF123, [0xFF]) := by decide

theorem test_witness_OpcodeMatrixDecodes :
    ((0xA5 : Byte), Instr.ldaZp 0x80) ∈ opcodeMatrix 0x80 0x12 ∧ ((0x00 : Byte), Instr.brk) ∈ opcodeMatrix 0 0 ∧
      ((0xFE : Byte), Instr.incAbx 0x1280) ∈ opcodeMatrix 0x80 0x12 := by decide

theorem test_witness_UnpopulatedOpcodeIsFatal :
    let s := boot 0xF000 [0x02] []
    s.Running ∧ busRead s.pc s = .next (0x02, s) ∧ decode [0x02] = .error (.unpopulated 0x02) :=
  ⟨⟨rfl, rfl⟩, rfl, rfl⟩

/-- The last line: a launch whose `POPULATED` lacks LDA immediate. -/
theorem test_witness_StepRunsDecodedInstruction :
    plain.Running ∧ decode [0xA9, 0x55] = .ok (.ldaImm 0x55, []) ∧
    (∀ op, [0xA9, (0x55 : Byte)][0]? = some op → op ∈ plain.params.populated) ∧
    (∀ k, k < [0xA9, (0x55 : Byte)].length → plain.peek (plain.pc + BitVec.ofNat 16 k) = [0xA9, (0x55 : Byte)][k]?) ∧
    fetch plain = .next (.ldaImm 0x55, plain) ∧
    ∃ s : State, s = { plain with params := { plain.params with populated := [0xEA] } } ∧ s.Running ∧
      busRead s.pc s = .next (0xA9, s) ∧ 0xA9 ∉ s.params.populated ∧
      fetch s = .fault (.unimplementedOpcode 0xA9 0xF000) :=
  ⟨⟨rfl, rfl⟩, rfl, by decide, by decide, rfl, _, rfl, ⟨rfl, rfl⟩, rfl, by decide, rfl⟩

theorem test_witness_BoundaryStops :
    { plain with fault := some .badCartridge }.fault = some .badCartridge ∧
    ({ plain with quit := true }.fault = none ∧ { plain with quit := true }.quit = true) ∧
    ({ plain with clock := 7, params := { plain.params with stopClock := some 7 } }.fault = none ∧
      { plain with clock := 7, params := { plain.params with stopClock := some 7 } }.params.stopClock = some 7 ∧ 7 ≤ 7) ∧
    step (boot 0xF000 [0x02] []) = .fault (.unimplementedOpcode 0x02 0xF000) :=
  ⟨rfl, ⟨rfl, rfl⟩, ⟨rfl, rfl, Nat.le_refl _⟩, rfl⟩

theorem test_witness_StopsAreOnlyTheNamedOnes :
    (boot 0xF000 [0x02] []).fault = none ∧
      step (boot 0xF000 [0x02] []) = .fault (.unimplementedOpcode 0x02 0xF000) ∧ plain.DefaultBus :=
  ⟨rfl, rfl, rfl, rfl⟩

/-- The default start state meets the invariant. -/
theorem plain_inv : plain.Inv where
  memory := by decide
  tia := ⟨by unfold Tia.PositionsOk; decide, by unfold Latches.Ok; decide, by unfold Tia.Unlocked; decide, by decide⟩
  beam := by unfold Tia.BeamOk; decide

theorem test_witness_StepKeepsInvariant : plain.Inv ∧ ∃ t, step plain = .next t := ⟨plain_inv, _, rfl⟩

theorem test_witness_StepAdvancesClock : ∃ t, step plain = .next t := ⟨_, rfl⟩

theorem test_witness_StepKeepsRomAndParameters : (∃ t, step plain = .next t) ∧ 0 < 0x1000 ∧ 0xFFF < 0x1000 :=
  ⟨⟨_, rfl⟩, by decide⟩

/-- The first four clauses at the ends of their ranges; each address meets the conditions of one clause only. -/
theorem test_witness_RouterFollowsMap :
    [(0x1000 : Addr), 0x1FFF, 0xF000, 0xFFFF].map route = [some (.cart 0), some (.cart 0xFFF), some (.cart 0), some (.cart 0xFFF)] ∧
    [(0x0080 : Addr), 0x00FF, 0x0180, 0x0DFF].map route = [some (.ram 0), some (.ram 0x7F), some (.ram 0), some (.ram 0x7F)] ∧
    [(0x0280 : Addr), 0x02FF, 0x0FFF].map route = [some .riotIo, some .riotIo, some .riotIo] ∧
    [(0x0100 : Addr), 0x017F].map route = [some (.ram 0), some (.ram 0x7F)] ∧
    [(0x0000 : Addr), 0x007F, 0x0200, 0x2000].map route =
      [some (.tia 0 0), some (.tia 0x3F 0xF), some (.tia 0 0), some (.tia 0 0)] := by decide

theorem test_witness_StackIsZeroPageRam : 0 < 0x80 ∧ 0x7F < 0x80 := by decide

theorem test_witness_RamReadsBackWrites :
    Memory.wf plain.mem = true ∧ route 0x0080 = some (.ram 0) ∧ route 0x0100 = some (.ram 0) ∧
      route 0x00FF = some (.ram 0x7F) ∧ route 0x00FF ≠ some (.ram 0) := by decide

/-- A launch with the default collaborators, and one with others. -/
theorem test_witness_CartridgeAndRiotAccesses :
    route 0xF000 = some (.cart 0) ∧ route 0xFFFF = some (.cart 0xFFF) ∧ route 0x0280 = some .riotIo ∧
    (0x0296 : Addr) = BitVec.ofNat 16 ((0xE296 : Addr).toNat % 0x2000) ∧ route 0xE296 = some .riotIo ∧
    plain.params.cart = .singleBank ∧ plain.params.riotIO = .oracle ∧
    ∃ s : State, s = { plain with params := { plain.params with cart := .other 7, riotIO := .other 9 } } ∧
      s.params.cart = .other 7 ∧ s.params.riotIO = .other 9 :=
  ⟨by decide, by decide, by decide, by decide, by decide, rfl, rfl, _, rfl, rfl, rfl⟩

/-- A launch that answers, with the NOP image. -/
theorem test_witness_ResetLoadsVector :
    plain.params.cart = .singleBank ∧ 0 < 0x80 ∧ 0x7F < 0x80 ∧ (∃ c, c = plain.tia.latch) ∧ ∃ t, launch launchParams plain [0xEA] = .next t := by
  refine ⟨rfl, by decide, by decide, ⟨_, rfl⟩, ?_⟩
  have hl : ∃ l, load [0xEA] (State.atPowerOn launchParams plain) = .next l ∧ l.DefaultBus := ⟨_, rfl, rfl, rfl⟩
  obtain ⟨l, hl, hd⟩ := hl
  rcases applyReset_cases l with ⟨_, _, _, _, _, _, h⟩ | h
  · exact ⟨_, by unfold launch; rw [hl]; exact h⟩
  · exact absurd h hd.not_refused

theorem test_witness_TiaReadsReturnLatches :
    route 0x0000 = some (.tia 0 0) ∧ 0 < 8 ∧ route 0x0007 = some (.tia 7 7) ∧ 7 < 8 ∧
      route 0x0008 = some (.tia 8 8) ∧ 8 ≤ 8 ∧ route 0x003F = some (.tia 0x3F 15) ∧ 8 ≤ 15 ∧
      ∃ c, c = (plain.tia.catchUp plain.params plain.clock).latch := ⟨by decide, by decide, by decide, by decide, by decide,
        by decide, by decide, by decide, _, rfl⟩

theorem test_witness_RefusedWritesAreRefused :
    refusesWrite 0x0080 0xFF = false ∧ refusesWrite 0x0028 0x01 = false ∧ refusesWrite 0x0002 0 = false ∧
      plain.mayRefuse 0x0280 = false ∧ plain.mayRefuse 0xF000 = false ∧
      { plain with params := { plain.params with cart := .other 7 } }.mayRefuse 0x0080 = false ∧
      route 0x0003 = some (.tia 0x03 3) ∧ route 0x0028 = some (.tia 0x28 8) ∧ route 0x0029 = some (.tia 0x29 9) ∧
      2 ≤ (0x02 : Byte).toNat % 4 ∧ 2 ≤ (0xFF : Byte).toNat % 4 := by decide

/-- A zero-page pointer at 80 to F010, X = 0. -/
def pointing : State := boot 0xF000 [] [(ramKey 0, 0x10), (ramKey 1, 0xF0)]

theorem test_witness_PointerModes :
    busRead (BitVec.ofNat 16 (((0x80 : Byte).toNat + pointing.x.toNat) % 0x100)) pointing = .next (0x10, pointing) ∧
    busRead (BitVec.ofNat 16 (((0x80 : Byte).toNat + pointing.x.toNat + 1) % 0x100)) pointing = .next (0xF0, pointing) ∧
    busRead (BitVec.ofNat 16 (0x80 : Byte).toNat) pointing = .next (0x10, pointing) ∧
    busRead (BitVec.ofNat 16 (((0x80 : Byte).toNat + 1) % 0x100)) pointing = .next (0xF0, pointing) ∧
    pointing.params.jmpIndPageWrap = true ∧ busRead 0x0080 pointing = .next (0x10, pointing) ∧
    busRead (BitVec.ofNat 16 ((0x0080 : Addr).toNat / 0x100 * 0x100 + ((0x0080 : Addr).toNat + 1) % 0x100)) pointing =
      .next (0xF0, pointing) ∧
    { pointing with params := { pointing.params with jmpIndPageWrap := false } }.params.jmpIndPageWrap = false ∧
    busRead (BitVec.ofNat 16 ((0x0080 : Addr).toNat + 1)) { pointing with params := { pointing.params with jmpIndPageWrap := false } } =
      .next (0xF0, { pointing with params := { pointing.params with jmpIndPageWrap := false } }) :=
  ⟨rfl, rfl, rfl, rfl, rfl, rfl, rfl, rfl, rfl⟩

theorem test_witness_OperandAccessesAnswer :
    plain.DefaultBus ∧ (∃ v t, plain.ReadsOperand (.zp 0x80) v t) ∧ (∃ a t, plain.StoresTo (.zp 0x80) a t) ∧
      (∃ a v t, plain.ReadsTarget (.zp 0x80) a v t) ∧
      ((Instr.ldaZp 0x80).operand = .zp 0x80 ∧ accessesData (.ldaZp 0x80) = true ∧ (Instr.ldaZp 0x80).mnemonic = .lda ∧
        effective (.zp 0x80) plain = .next (⟨0x0080, false⟩, plain)) ∧
      ((Instr.incZp 0x80).operand = .zp 0x80 ∧ accessesData (.incZp 0x80) = true ∧ (Instr.incZp 0x80).mnemonic = .inc) :=
  ⟨plain_defaultBus, plain_reads _, ⟨_, _, _, _, rfl, rfl, rfl⟩, ⟨_, _, _, _, _, _, rfl, rfl, rfl, rfl⟩,
    ⟨rfl, rfl, rfl, rfl⟩, rfl, rfl, rfl⟩

theorem test_witness_LoadResults :
    (Instr.ldaIzy 0x80).mnemonic = .lda ∧ (Instr.ldxZpy 0x80).mnemonic = .ldx ∧ (Instr.ldyImm 0).mnemonic = .ldy ∧
      (Instr.laxAby 0xF000).mnemonic = .lax ∧ plain.DefaultBus ∧ ∀ i : Instr, ∃ v t, plain.ReadsOperand i.operand v t :=
  ⟨rfl, rfl, rfl, rfl, plain_defaultBus, fun i => plain_reads i.operand⟩

theorem test_witness_LogicResults :
    (Instr.andImm 0x80).mnemonic = .and ∧ (Instr.oraIzx 0).mnemonic = .ora ∧ (Instr.eorAbx 0).mnemonic = .eor ∧
      (Instr.bitZp 0x80).mnemonic = .bit ∧ plain.DefaultBus ∧ ∀ i : Instr, ∃ v t, plain.ReadsOperand i.operand v t :=
  ⟨rfl, rfl, rfl, rfl, plain_defaultBus, fun i => plain_reads i.operand⟩

theorem test_witness_AdcBinaryResult :
    (Instr.adcImm 0x50).mnemonic = .adc ∧ plain.flags.d = false ∧ plain.DefaultBus ∧
      (∃ v t, plain.ReadsOperand (Instr.adcImm 0x50).operand v t) ∧ ∃ v t, plain.ReadsOperand (Instr.adcIzy 0x80).operand v t :=
  ⟨rfl, rfl, plain_defaultBus, plain_reads _, plain_reads _⟩

theorem test_witness_SbcBinaryResult :
    (Instr.sbcImm 0x50).mnemonic = .sbc ∧ plain.flags.d = false ∧ plain.DefaultBus ∧
      (∃ v t, plain.ReadsOperand (Instr.sbcImm 0x50).operand v t) ∧ ∃ v t, plain.ReadsOperand (Instr.sbcIzy 0x80).operand v t :=
  ⟨rfl, rfl, plain_defaultBus, plain_reads _, plain_reads _⟩

theorem test_witness_DecimalResults :
    ∃ s : State, s = { plain with flags := flagsOf 8 } ∧ s.flags.d = true ∧ (Instr.adcImm 0x99).mnemonic = .adc ∧
      (Instr.sbcImm 0x99).mnemonic = .sbc ∧ s.DefaultBus ∧ (∃ v t, s.ReadsOperand (Instr.adcImm 0x99).operand v t) ∧
      ∃ v t, s.ReadsOperand (Instr.sbcImm 0x99).operand v t :=
  ⟨_, rfl, rfl, rfl, rfl, ⟨rfl, rfl⟩, ⟨_, _, rfl, rfl⟩, _, _, rfl, rfl⟩

theorem test_witness_DecimalArithmeticIsDecimal :
    (0x99 : Byte).toNat / 16 < 10 ∧ (0x99 : Byte).toNat % 16 < 10 ∧ (0x00 : Byte).toNat / 16 < 10 ∧
      (99 : Nat) = (0x99 : Byte).toNat / 16 * 10 + (0x99 : Byte).toNat % 16 := by decide

theorem test_witness_CompareResults :
    (Instr.cmpImm 0).mnemonic = .cmp ∧ (Instr.cpxAbs 0).mnemonic = .cpx ∧ (Instr.cpyZp 0).mnemonic = .cpy ∧
      plain.DefaultBus ∧ ∀ i : Instr, ∃ v t, plain.ReadsOperand i.operand v t :=
  ⟨rfl, rfl, rfl, plain_defaultBus, fun i => plain_reads i.operand⟩

theorem test_witness_ReadingNopResults :
    (Instr.nopImm80 0).mnemonic = .nop ∧ (Instr.nopImm80 0).operand ≠ .imp ∧
      (Instr.nopAbx1C 0).mnemonic = .nop ∧ (Instr.nopAbx1C 0).operand ≠ .imp ∧ plain.DefaultBus ∧
      (∃ v t, plain.ReadsOperand (Instr.nopImm80 0).operand v t) ∧ ∃ v t, plain.ReadsOperand (Instr.nopAbx1C 0).operand v t :=
  ⟨rfl, by decide, rfl, by decide, plain_defaultBus, plain_reads _, plain_reads _⟩

theorem test_witness_TransferResults : ∃ r : State, r = { plain with
    pc := BitVec.ofNat 16 (plain.pc.toNat + 1), clock := plain.clockAfter 2 } := ⟨_, rfl⟩

theorem test_witness_RegisterStepResults :
    (∃ r : State, r = { plain with pc := BitVec.ofNat 16 (plain.pc.toNat + 1), clock := plain.clockAfter 2 }) ∧
    (0x00 : Byte).toNat = ((0xFF : Byte).toNat + 1) % 256 ∧ (0xFF : Byte).toNat = ((0x00 : Byte).toNat + 255) % 256 :=
  ⟨⟨_, rfl⟩, by decide⟩

theorem test_witness_FlagAndNopResults :
    (∃ r : State, r = { plain with pc := BitVec.ofNat 16 (plain.pc.toNat + 1), clock := plain.clockAfter 2 }) ∧
    (Instr.nop, (0xEA : Byte)) ∈ [(Instr.nop, 0xEA), (.nopImp1A, 0x1A), (.nopImp3A, 0x3A), (.nopImp5A, 0x5A),
      (.nopImp7A, 0x7A), (.nopImpDA, 0xDA), (.nopImpFA, 0xFA)] := ⟨⟨_, rfl⟩, by decide⟩

theorem test_witness_AccumulatorShiftResults : Instr.rorAcc ∈ [Instr.aslAcc, .lsrAcc, .rolAcc, .rorAcc] := by decide

/-- A store that is made (RAM) and one to RSYNC. -/
theorem test_witness_StoreResults :
    (Mnemonic.sax, plain.a &&& plain.x) ∈ [(Mnemonic.sta, plain.a), (.stx, plain.x), (.sty, plain.y), (.sax, plain.a &&& plain.x)] ∧
    (∃ t, plain.StoresTo (.zp 0x80) 0x0080 t ∧ refusesWrite 0x0080 (plain.a &&& plain.x) = false) ∧
    plain.mayRefuse 0x0080 = false ∧
    ∃ t, plain.StoresTo (.zp 0x03) 0x0003 t ∧ busWrite 0x0003 (plain.a &&& plain.x) t = .refused .rsyncWrite :=
  ⟨by decide, ⟨_, ⟨_, _, rfl, rfl, rfl⟩, by decide⟩, by decide, _, ⟨_, _, rfl, rfl, rfl⟩, rfl⟩

theorem test_witness_MemoryModifyResults :
    (Instr.incZp 0x80).mnemonic ∈ [Mnemonic.inc, .dec, .asl, .lsr, .rol, .ror] ∧ (Instr.incZp 0x80).operand ≠ .acc ∧
    (∃ t w : State, plain.ReadsTarget (.zp 0x80) 0x0080 0x00 t ∧
      (0x01 : Byte) = modifiedByte .inc 0x00 plain.flags.c ∧
      w = { t with flags := { nzFlags plain.flags 0x01 with c := modifiedCarry .inc 0x00 plain.flags.c } } ∧
      refusesWrite 0x0080 0x01 = false ∧ plain.mayRefuse 0x0080 = false) ∧
    ∃ t w : State, plain.ReadsTarget (.zp 0x03) 0x0003 0x00 t ∧
      w = { t with flags := { nzFlags plain.flags 0x01 with c := modifiedCarry .inc 0x00 plain.flags.c } } ∧
      busWrite 0x0003 0x01 w = .refused .rsyncWrite :=
  ⟨by decide, by decide, ⟨_, _, ⟨_, _, _, rfl, rfl, rfl, rfl⟩, by decide, rfl, by decide, by decide⟩,
    _, _, ⟨_, _, _, rfl, rfl, rfl, rfl⟩, rfl, rfl⟩

theorem test_witness_SloAndDcpResults :
    (∃ t w : State, plain.ReadsTarget (.zp 0x80) 0x0080 0x00 t ∧ (Instr.sloZp 0x80).mnemonic = .slo ∧
      (0x00 : Byte) = BitVec.ofNat 8 (2 * (0x00 : Byte).toNat) ∧
      w = { t with a := plain.a ||| 0, flags := { nzFlags plain.flags (plain.a ||| 0) with c := decide (128 ≤ (0x00 : Byte).toNat) } } ∧
      refusesWrite 0x0080 0x00 = false ∧ plain.mayRefuse 0x0080 = false) ∧
    ∃ t w : State, plain.ReadsTarget (.zp 0x03) 0x0003 0x00 t ∧ (Instr.dcpZp 0x03).mnemonic = .dcp ∧
      (0xFF : Byte) = BitVec.ofNat 8 ((0x00 : Byte).toNat + 255) ∧ w = { t with flags := compareFlags plain.flags plain.a 0xFF } ∧
      busWrite 0x0003 0xFF w = .refused .rsyncWrite :=
  ⟨⟨_, _, ⟨_, _, _, rfl, rfl, rfl, rfl⟩, rfl, by decide, rfl, by decide, by decide⟩,
    _, _, ⟨_, _, _, rfl, rfl, rfl, rfl⟩, rfl, by decide, rfl, rfl⟩

theorem test_witness_BranchResults :
    ∃ (taken past : State) (target next : Addr), target = BitVec.ofInt 16 (plain.pc.toNat + (0x80 : Byte).toInt + 2) ∧
      next = BitVec.ofNat 16 (plain.pc.toNat + 2) ∧
      taken = { plain with
        pc := target, clock := plain.clockAfter (2 + 1 + if target.toNat / 256 ≠ next.toNat / 256 then 1 else 0) } ∧
      past = { plain with pc := next, clock := plain.clockAfter 2 } := ⟨_, _, _, _, rfl, rfl, rfl, rfl⟩

theorem test_witness_JumpAndReturnResults :
    (∃ lo hi, lo = stackByte plain.mem (plain.sp + 1) ∧ hi = stackByte plain.mem (plain.sp + 2)) ∧ plain.DefaultBus ∧
      ∃ e t, effective (.ind 0xF000) plain = .next (e, t) := ⟨⟨_, _, rfl, rfl⟩, plain_defaultBus, _, _, rfl⟩

/-- What JSR to F010 leaves in `s`, its operand's high byte apart. -/
def called (s : State) : State := { s with
  mem := stackWritten (stackWritten s.mem s.sp (BitVec.ofNat 8 ((s.pc.toNat + 2) % 0x10000 / 256))) (s.sp - 1)
    (BitVec.ofNat 8 ((s.pc.toNat + 2) % 0x10000 % 256))
  sp := s.sp - 2, clock := s.clockAfter 6 }

/-- JSR in ROM; JSR whose third byte is a TIA register; and JSR in the stack, whose third byte the pushes change. -/
theorem test_witness_JsrResult :
    let s := boot 0xF000 [0x20, 0x10, 0xF0] []
    let u := { plain with pc := 0x007E - 0x10 }
    let v := { boot 0x0080 [0x20, 0x10, 0xF0] [] with sp := 0x82 }
    (called s).peek (s.pc + 2) = s.peek (s.pc + 2) ∧ u.peek (u.pc + 2) = none ∧
      (v.peek (v.pc + 2)).map BitVec.toNat = some ((0xF010 : Addr).toNat / 256) ∧
      (called v).peek (v.pc + 2) ≠ v.peek (v.pc + 2) := by decide

theorem test_witness_BrkTakesTheTrap :
    ∃ (ret : Nat) (w : State), ret = (plain.pc.toNat + 2) % 0x10000 ∧ w = { plain with
      mem := stackWritten (stackWritten (stackWritten plain.mem plain.sp (BitVec.ofNat 8 (ret / 256))) (plain.sp - 1)
        (BitVec.ofNat 8 (ret % 256))) (plain.sp - 2) (statusByte plain.flags)
      sp := plain.sp - 3, flags := { plain.flags with i := true } } ∧ plain.params.cart = .singleBank :=
  ⟨_, _, rfl, rfl, rfl⟩

theorem test_witness_RtiReturnsFromTheTrap : ∃ p lo hi, p = stackByte plain.mem (plain.sp + 1) ∧
    lo = stackByte plain.mem (plain.sp + 2) ∧ hi = stackByte plain.mem (plain.sp + 3) := ⟨_, _, _, rfl, rfl, rfl⟩

theorem test_witness_ReturnsUndoCalls :
    Memory.wf plain.mem = true ∧ (∃ t, exec (.jsrAbs 0xF010) plain = .next t) ∧ (∃ t, exec .brk plain = .next t) ∧
      (∃ t, exec .pha plain = .next t) ∧ ∃ t, exec .php plain = .next t :=
  ⟨by decide, ⟨_, rfl⟩, ⟨_, rfl⟩, ⟨_, rfl⟩, _, rfl⟩

theorem test_witness_PushAndPullResults :
    (∃ r : State, r = { plain with pc := BitVec.ofNat 16 (plain.pc.toNat + 1) }) ∧
      ∃ p, p = stackByte plain.mem (plain.sp + 1) := ⟨⟨_, rfl⟩, _, rfl⟩

theorem test_witness_RegisterFrame :
    (∃ t, exec .nop plain = .next t) ∧
    Instr.nop.mnemonic ∉ [Mnemonic.lda, .lax, .txa, .tya, .pla, .adc, .sbc, .and, .ora, .eor, .alr, .slo] ∧
    Instr.nop.operand ≠ .acc ∧ Instr.nop.mnemonic ∉ [Mnemonic.ldx, .lax, .tax, .tsx, .inx, .dex, .sbx] ∧
    Instr.nop.mnemonic ∉ [Mnemonic.ldy, .tay, .iny, .dey] ∧
    Instr.nop.mnemonic ∉ [Mnemonic.txs, .pha, .php, .pla, .plp, .jsr, .rts, .brk, .rti] := ⟨⟨_, rfl⟩, by decide⟩

theorem test_witness_FlagFrame :
    (∃ t, exec .txs plain = .next t) ∧ (∃ t, exec .clc plain = .next t) ∧
    Instr.txs.mnemonic ∈ [Mnemonic.sta, .stx, .sty, .sax, .txs, .pha, .php, .jmp, .jsr, .rts, .nop, .bpl, .bmi, .bvc, .bvs,
      .bcc, .bcs, .bne, .beq] ∧
    Instr.clc.mnemonic ∈ [Mnemonic.clc, .sec, .cld, .sed, .cli, .sei, .clv, .brk] ∧
    Instr.txs.mnemonic ∉ [Mnemonic.adc, .sbc, .bit, .clv, .plp, .rti] ∧ Instr.txs.mnemonic ∉ [Mnemonic.cld, .sed, .plp, .rti] ∧
    Instr.txs.mnemonic ∉ [Mnemonic.cli, .sei, .brk, .plp, .rti] ∧
    Instr.txs.mnemonic ∉ [Mnemonic.adc, .sbc, .cmp, .cpx, .cpy, .dcp, .sbx, .asl, .lsr, .rol, .ror, .slo, .alr, .clc, .sec,
      .plp, .rti] := ⟨⟨_, rfl⟩, ⟨_, rfl⟩, by decide⟩

theorem test_witness_MemoryFrame :
    (∃ t, exec (.staZp 0x80) plain = .next t) ∧ storedAddrs (.staZp 0x80) plain = [0x0080] ∧
    storageKey 0x0080 ≠ storageKey 0x0081 ∧ route 0xF000 = some (.cart 0) := ⟨⟨_, rfl⟩, rfl, by decide, by decide⟩

theorem test_witness_DeviceFrame :
    (∃ t, exec .nop plain = .next t) ∧ accessesData .nop = false ∧ plain.flags.d = false ∧
    Instr.nop.mnemonic ∉ [Mnemonic.adc, .sbc] ∧ (∃ t, exec (.staZp 0x80) plain = .next t) ∧
    storedAddrs (.staZp 0x80) plain = [0x0080] ∧ route 0x0080 = some (.ram 0) ∧
    plain.params.cart = .singleBank ∧ Instr.nop.mnemonic ≠ .brk :=
  ⟨⟨_, rfl⟩, rfl, rfl, by decide, ⟨_, rfl⟩, rfl, by decide, rfl, by decide⟩

theorem test_witness_CatchUpIsTickByTick :
    Tia.powerOn.lastUpdate ≤ 0 ∧ (0 : Nat) ≤ 0 ∧ (67 : Nat) = (295 - Tia.powerOn.screenStart) % 228 ∧
      (1 : Nat) = (295 - Tia.powerOn.screenStart) / 228 ∧ (0 : Nat) = 67 - 68 := by decide

/-- The first and the last pixel of the frame, just passed, and not yet passed; and one whose scanline began before the
last update, which takes the old LineState. -/
theorem test_witness_CatchUpPaintsExactlyThePassedPixels :
    let t := Tia.powerOn
    t.screenStart ≤ t.lastUpdate ∧ t.lastUpdate ≤ 68 ∧ t.lastUpdate ≤ 69 ∧ 0 < launchParams.frameHeight ∧
    261 < launchParams.frameHeight ∧ 159 < 160 ∧
    (68 : Nat) = t.screenStart + 0 * 228 + 68 + 0 ∧ (59735 : Nat) = t.screenStart + 261 * 228 + 68 + 159 ∧
    (t.lastUpdate ≤ 68 ∧ 68 < 69) ∧ ¬(t.lastUpdate ≤ 68 ∧ 68 < 68) ∧
    t.lastUpdate ≤ 59735 ∧ 59735 < 59736 ∧
    let u := { t with lastUpdate := 100, line := colours 0 }
    u.screenStart ≤ u.lastUpdate ∧ u.lastUpdate ≤ 101 ∧ (100 : Nat) = u.screenStart + 0 * 228 + 68 + 32 ∧
      (u.lastUpdate ≤ 100 ∧ 100 < 101) ∧ ¬u.lastUpdate ≤ u.screenStart + 0 * 228 ∧ u.line ≠ u.snapshot := by decide

theorem test_witness_LineStateIsOfTheLineStart :
    (∃ c, Tia.powerOn.lastUpdate ≤ c ∧ c < 1 ∧ (c - Tia.powerOn.screenStart) % 228 = 0) ∧
    ∀ c, { Tia.powerOn with lastUpdate := 1 }.lastUpdate ≤ c → c < 228 →
      (c - { Tia.powerOn with lastUpdate := 1 }.screenStart) % 228 ≠ 0 :=
  ⟨⟨0, by decide⟩, fun c h1 h2 h3 => by
    have : (1 : Nat) ≤ c := h1
    have : (c - 0) % 228 = 0 := h3
    omega⟩

theorem test_witness_CompositeFollowsPriority :
    let h : Hit := ⟨true, false, false, false, true, true⟩
    ∃ field front back : Bool × Byte, field = (h.pf || h.bl, (colours 4).playfieldColor) ∧
      front = (h.p1 || h.m1, (colours 4).pColor.one) ∧ back = (h.p0 || h.m0, (colours 4).pColor.zero) :=
  ⟨_, _, _, rfl, rfl, rfl⟩

theorem test_witness_ObjectScanlines :
    0 < 160 ∧ 159 < 160 ∧ (39 : Nat) = 159 / 4 ∧
    (0 : Nat) = (if 39 < 20 then 39 else if (0x01 : Byte).toNat % 2 = 1 then 39 - 39 else 39 - 20) ∧
    (7 : Nat) = ((Tia.powerOn.nusiz.set .zero 7).get .zero).toNat % 8 ∧
    (4 : Nat) = (if 7 = 5 then 2 else if 7 = 7 then 4 else 1) ∧
    [0] = ([[0], [0, 16], [0, 32], [0, 16, 32], [0, 64], [0], [0, 32, 64], [0]] : List (List Nat)).getD 7 [] ∧
    (0 : Byte) = (if (Tia.powerOn.vdelp.get .zero).toNat % 2 = 1 then Tia.powerOn.grpOld.get .zero else Tia.powerOn.grp.get .zero) := by
  decide

/-- Every register number and port has an address: number `r` at bus address `r`, for all 64 numbers. -/
theorem tia_addresses : ∀ r < 0x40, route (BitVec.ofNat 16 r) = some (.tia r (r % 16)) := by decide

theorem test_witness_TiaRegisterWrites :
    (∀ r < 0x40, route (BitVec.ofNat 16 r) = some (.tia r (r % 16))) ∧ (0x01 : Byte).toNat % 4 < 2 ∧
      (0 : Nat) = (match Side.zero with | .zero => 0 | .one => 1) ∧ (1 : Nat) = (match Side.one with | .zero => 0 | .one => 1) ∧
      0 < 6 ∧ 5 < 6 ∧ 0x2D ≤ 0x2D ∧ 0x3F < 0x40 ∧ ∃ t, t = plain.tia.catchUp plain.params plain.clock :=
  ⟨tia_addresses, by decide, rfl, rfl, by decide, by decide, by decide, by decide, _, rfl⟩

theorem test_witness_ResetStrobesSetPositions :
    route 0x0010 = some (.tia 0x10 0) ∧ route 0x0011 = some (.tia 0x11 1) ∧ route 0x0012 = some (.tia 0x12 2) ∧
    route 0x0013 = some (.tia 0x13 3) ∧ route 0x0014 = some (.tia 0x14 4) ∧
    (67 : Nat) = ((beam 67 Tia.powerOn).clock - (beam 67 Tia.powerOn).tia.screenStart) % 228 ∧
    (227 : Nat) = ((beam 227 Tia.powerOn).clock - (beam 227 Tia.powerOn).tia.screenStart) % 228 ∧
    ∃ t, t = plain.tia.catchUp plain.params plain.clock :=
  ⟨rfl, rfl, rfl, rfl, rfl, rfl, rfl, _, rfl⟩

theorem test_witness_HmoveMovesByLineState :
    route 0x002A = some (.tia 0x2A 10) ∧ (∃ t, t = plain.tia.catchUp plain.params plain.clock) ∧
    (∃ extra : Int, extra = (if (plain.clock - plain.tia.screenStart) % 228 / 3 = 73 then 8 else 0)) ∧
    ∃ delta : Byte → Int, ∀ m : Byte,
      delta m = (if m.toNat / 16 < 8 then (m.toNat / 16 : Int) else (m.toNat / 16 : Int) - 16) +
        (if (plain.clock - plain.tia.screenStart) % 228 / 3 = 73 then 8 else 0) :=
  ⟨rfl, ⟨_, rfl⟩, ⟨_, rfl⟩, _, fun _ => rfl⟩

theorem test_witness_WsyncStallsToTheBoundary :
    route 0x0002 = some (.tia 0x02 2) ∧ (0 : Nat) = ((beam 228 Tia.powerOn).clock - 0) % 228 ∧
      (1 : Nat) = ((beam 229 Tia.powerOn).clock - 0) % 228 := by decide

theorem test_witness_VsyncStateMachine :
    route 0x0000 = some (.tia 0x00 0) ∧ (∃ t, t = plain.tia.catchUp plain.params plain.clock) ∧
    (2 ≤ (0x02 : Byte).toNat % 4 ∧ plain.tia.isVsync = false) ∧
    ((0x00 : Byte).toNat % 4 < 2 ∧ { plain.tia with isVsync := true }.isVsync = true) ∧
    (2 ≤ (0x00 : Byte).toNat % 4 ↔ plain.tia.isVsync = true) ∧
    (2 ≤ (0x02 : Byte).toNat % 4 ↔ { plain.tia with isVsync := true }.isVsync = true) :=
  ⟨rfl, ⟨_, rfl⟩, by decide, by decide, by decide, by decide⟩

end Sys2Proof.Tests
end

section
/-! PROOF. What every completed instruction is made of: bus accesses and charges around one effect on the registers. The
Clock, the registers, the flags and the run status of a step are read off from that. -/

namespace Sys2Proof.Machine

/-- From `s` to `t` only bus accesses, stack bytes, charges and updates of `PC` happened, at least `n` CPU cycles passed,
and no ROM byte changed (R46, R51). -/
structure State.BusRun (n : Nat) (s t : State) : Prop where
  frame : t = { s with
    pc := t.pc, clock := t.clock, mem := t.mem, cart := t.cart, tia := t.tia, draws := t.draws, events := t.events }
  clock : s.clockAfter n ≤ t.clock
  rom : ∀ o, o < 0x1000 → Memory.read t.mem (romKey o) = Memory.read s.mem (romKey o)

namespace State.BusRun

variable {s t u : State} {m n : Nat}

theorem a (h : s.BusRun n t) : t.a = s.a := by rw [h.frame]
theorem x (h : s.BusRun n t) : t.x = s.x := by rw [h.frame]
theorem y (h : s.BusRun n t) : t.y = s.y := by rw [h.frame]
theorem sp (h : s.BusRun n t) : t.sp = s.sp := by rw [h.frame]
theorem flags (h : s.BusRun n t) : t.flags = s.flags := by rw [h.frame]
theorem params (h : s.BusRun n t) : t.params = s.params := by rw [h.frame]
theorem quit (h : s.BusRun n t) : t.quit = s.quit := by rw [h.frame]
theorem fault (h : s.BusRun n t) : t.fault = s.fault := by rw [h.frame]

theorem refl (s : State) : s.BusRun 0 s := ⟨rfl, s.clockAfter_zero.le, fun _ _ => rfl⟩

theorem trans (h : s.BusRun m t) (h' : t.BusRun n u) : s.BusRun (m + n) u where
  frame := by
    have hu := h'.frame
    rw [h.frame] at hu
    exact hu
  clock := by
    have hs := h.clock
    have ht := h'.clock
    simp only [State.clockAfter, h.params, Nat.add_mul] at hs ht ⊢
    omega
  rom o ho := (h'.rom o ho).trans (h.rom o ho)

theorem weaken (h : s.BusRun n t) (hmn : m ≤ n) : s.BusRun m t :=
  ⟨h.frame, (Nat.add_le_add_left (Nat.mul_le_mul_right _ hmn) _).trans h.clock, h.rom⟩

/-- A charge after the accesses adds its cycles. -/
theorem charge (h : s.BusRun m t) (n : Nat) : s.BusRun (m + n) (t.charge n) :=
  h.trans ⟨rfl, Nat.le_refl _, fun _ _ => rfl⟩

theorem setPc (h : s.BusRun n t) (p : Addr) : s.BusRun n (t.setPc p) :=
  h.trans (n := 0) (u := t.setPc p) ⟨rfl, t.clockAfter_zero.le, fun _ _ => rfl⟩

theorem advance (h : s.BusRun n t) (size : Nat) : s.BusRun n (t.advance size) := h.setPc _

end State.BusRun

theorem State.BusFrame.busRun {s t : State} (h : s.BusFrame t) : s.BusRun 0 t := by
  unfold State.BusFrame at h
  rw [h]
  exact ⟨rfl, s.clockAfter_zero.le, fun _ _ => rfl⟩

/-- R42, R49: RAM and ROM have different keys. -/
theorem read_romKey_write_ramKey {i : Nat} (hi : i < 0x80) (m : Memory) (v : Byte) (o : Nat) :
    Memory.read (Memory.write m (ramKey i) v) (romKey o) = Memory.read m (romKey o) :=
  Memory.read_write_ne (by simp only [romKey, ramKey]; omega) v m

/-- R51: no bus write changes a ROM byte. -/
theorem busWrite_rom {addr : Addr} {v : Byte} {s t : State} (h : busWrite addr v s = .next t) (o : Nat) :
    Memory.read t.mem (romKey o) = Memory.read s.mem (romKey o) := by
  rw [busWrite_mem h]
  split
  · next hr => exact read_romKey_write_ramKey (route_range hr) s.mem v o
  · rfl

theorem busWrite_busRun {addr : Addr} {v : Byte} {s t : State} (h : busWrite addr v s = .next t) : s.BusRun 0 t := by
  obtain ⟨hf, hc⟩ := busWrite_frame h
  refine ⟨?_, by rwa [State.clockAfter_zero], fun o _ => busWrite_rom h o⟩
  rw [hf]

/-- A byte written to the stack is one to RAM (R43). -/
theorem State.BusRun.stackWrite {s t : State} {n : Nat} (h : s.BusRun n t) (sp v : Byte) :
    s.BusRun n (t.setMem (Memory.write t.mem (ramKey (sp.toNat % 0x80)) v)) :=
  h.trans (n := 0) (u := t.setMem (Memory.write t.mem (ramKey (sp.toNat % 0x80)) v))
    ⟨rfl, t.clockAfter_zero.le, fun o _ => read_romKey_write_ramKey (Nat.mod_lt _ (by decide)) t.mem v o⟩

/-- `t` is reached from `s` by accesses and charges before and after one `effect` on the registers, given some data byte
(read, pulled, or A itself for `acc`), with at least 2 CPU cycles in all. -/
def State.RunsWith (effect : Byte → State → State) (s t : State) : Prop :=
  ∃ v u j k, 2 ≤ j + k ∧ s.BusRun j u ∧ (effect v u).BusRun k t

/-- The effect is on `s` itself where no data byte matters. -/
theorem State.BusRun.runsWith {s t : State} {n : Nat} (h : s.BusRun n t) (hn : 2 ≤ n) : s.RunsWith (fun _ u => u) t :=
  ⟨0, s, 0, n, by omega, .refl s, h⟩

theorem effective_busRun {o : Operand} {s : State} {e : Effective × State} (h : effective o s = .next e) :
    s.BusRun 0 e.2 := (effective_frame (e := e.1) (t := e.2) h).busRun

theorem busRead_busRun {addr : Addr} {s : State} {r : Byte × State} (h : busRead addr s = .next r) : s.BusRun 0 r.2 :=
  (busRead_frame (v := r.1) (t := r.2) h).busRun

theorem readOperand_busRun {o : Operand} {ea : Addr} {s : State} {r : Byte × State}
    (h : readOperand o ea s = .next r) : s.BusRun 0 r.2 := by
  rcases readOperand_cases o ea s with ⟨v, t, h', hf⟩ | ⟨a, h', _⟩ <;> rw [h] at h' <;> cases h'
  exact hf.busRun

/-- R105: a read-type instruction applies its semantics to the byte it read. -/
theorem readInstr_runs {o : Operand} {sem : State → Byte → State} {s t : State} (h : readInstr o sem s = .next t) :
    s.RunsWith (fun v u => sem u v) t := by
  obtain ⟨r, hr, ht⟩ := andThen_eq_next h
  obtain ⟨e, he, hr⟩ := andThen_eq_next hr
  obtain ⟨b, hb, hr⟩ := andThen_eq_next hr
  cases hr
  cases ht
  have hu := (((effective_busRun he).charge _).trans (readOperand_busRun hb)).charge busReadCycles
  exact ⟨_, _, 2, 0, by decide, hu.weaken (Nat.le_add_left _ _),
    (((State.BusRun.refl _).charge nullWriteCycles).advance _).weaken (Nat.zero_le _)⟩

/-- R105: a store-type instruction only makes accesses. -/
theorem storeInstr_runs {o : Operand} {value : State → Byte} {s t : State} (h : storeInstr o value s = .next t) :
    s.RunsWith (fun _ u => u) t := by
  obtain ⟨a, ha, h⟩ := andThen_eq_next h
  obtain ⟨e, he, ha⟩ := andThen_eq_next ha
  cases ha
  obtain ⟨w, hw, h⟩ := andThen_eq_next h
  cases h
  have ht := ((((effective_busRun he).charge (o.addrCycles + o.storeAdjust)).charge nullReadCycles).charge
    registerWriteCycles).trans (busWrite_busRun hw)
  exact (ht.advance _).runsWith (by simp only [nullReadCycles, registerWriteCycles]; omega)

/-- What a read-modify-write does to the registers: the flags of its semantics, and the result in A for `acc` (R111). -/
def modifyEffect (o : Operand) (sem : Modify) (v : Byte) (u : State) : State :=
  (sem v u).2.setA (if o = .acc then (sem v u).1 else (sem v u).2.a)

theorem modifyEffect_memory {o : Operand} (ho : o ≠ .acc) (sem : Modify) (v : Byte) (u : State) :
    modifyEffect o sem v u = (sem v u).2 := by rw [modifyEffect, if_neg ho]; rfl

/-- R105: a memory RMW-type instruction applies its semantics to the byte it read. -/
theorem modifyInstr_runs {o : Operand} {sem : Modify} {s t : State} (h : modifyInstr o sem s = .next t) :
    s.RunsWith (fun v u => (sem v u).2) t := by
  obtain ⟨m, hm, h⟩ := andThen_eq_next h
  obtain ⟨e, he, hm⟩ := andThen_eq_next hm
  obtain ⟨b, hb, hm⟩ := andThen_eq_next hm
  cases hm
  obtain ⟨w, hw, h⟩ := andThen_eq_next h
  cases h
  have hu := (((effective_busRun he).charge _).trans (busRead_busRun hb)).charge busReadCycles
  exact ⟨b.1, _, 2, 0, by decide, hu.weaken (Nat.le_add_left _ _),
    ((((State.BusRun.refl _).charge busWriteCycles).trans (busWrite_busRun hw)).advance _).weaken (Nat.zero_le _)⟩

theorem modifyAny_runs {o : Operand} {sem : Modify} {s t : State} (h : modifyAny o sem s = .next t) :
    s.RunsWith (modifyEffect o sem) t := by
  by_cases ho : o = .acc
  · subst ho
    cases h
    exact ⟨s.a, _, 1, 1, by decide, (State.BusRun.refl s).charge 1,
      ((State.BusRun.refl (modifyEffect .acc sem s.a (s.charge 1))).charge 1).advance 0⟩
  · have hm : modifyInstr o sem s = .next t := by
      cases o with
      | acc => exact absurd rfl ho
      | _ => exact h
    have he : modifyEffect o sem = fun v u => (sem v u).2 := by
      funext v u; exact modifyEffect_memory ho sem v u
    exact he ▸ modifyInstr_runs hm

theorem impliedInstr_runs {sem : State → State} {s t : State} (h : impliedInstr sem s = .next t) :
    s.RunsWith (fun _ u => sem u) t := by
  cases h
  exact ⟨0, _, 2, 0, by decide, ((State.BusRun.refl s).charge impliedAdjust).charge nullReadCycles,
    (((State.BusRun.refl _).charge nullWriteCycles).advance _).weaken (Nat.zero_le _)⟩

theorem nopAny_runs {o : Operand} {s t : State} (h : nopAny o s = .next t) : s.RunsWith (fun _ u => u) t := by
  cases o with
  | imp => exact impliedInstr_runs h
  | _ => exact readInstr_runs h

/-- R180: a branch only changes `PC` and takes at least 2 cycles. -/
theorem branchInstr_runs {c : Bool} {d : Byte} {s t : State} (h : branchInstr c d s = .next t) :
    s.RunsWith (fun _ u => u) t := by
  unfold branchInstr at h
  split at h <;> cases h
  · exact (((State.BusRun.refl s).charge (takenCycles s.pc d)).setPc _).runsWith (by simp only [takenCycles]; omega)
  · exact (((State.BusRun.refl s).charge 2).setPc _).runsWith (by decide)

theorem jumpInstr_runs {o : Operand} {cycles : Nat} (hc : 2 ≤ cycles) {s t : State}
    (h : jumpInstr o cycles s = .next t) : s.RunsWith (fun _ u => u) t := by
  obtain ⟨e, he, h⟩ := andThen_eq_next h
  cases h
  exact (((effective_busRun he).charge cycles).setPc _).runsWith (by omega)

theorem two_le_jumpCycles (o : Operand) : 2 ≤ jumpCycles o := by
  unfold jumpCycles
  split <;> decide

theorem pushInstr_runs {v : Byte} {cycles : Nat} (hc : 2 ≤ cycles) {s t : State} (h : pushInstr v cycles s = .next t) :
    s.RunsWith (fun _ u => u.setSp (u.sp - 1)) t := by
  rw [pushInstr, push_eq] at h
  cases h
  exact ⟨0, _, 0, _, by omega, (State.BusRun.refl s).stackWrite s.sp v, ((State.BusRun.refl _).charge cycles).advance 0⟩

theorem pullInstr_runs {sem : State → Byte → State} {cycles : Nat} (hc : 2 ≤ cycles) {s t : State}
    (h : pullInstr sem cycles s = .next t) : s.RunsWith (fun v u => sem (u.setSp (u.sp + 1)) v) t := by
  rw [pullInstr, pull_eq] at h
  cases h
  exact ⟨_, s, 0, _, by omega, .refl s, ((State.BusRun.refl _).charge cycles).advance 0⟩

theorem callInstr_runs {w : Addr} {s t : State} (h : callInstr w s = .next t) :
    s.RunsWith (fun _ u => u.setSp (u.sp - 1 - 1)) t := by
  rw [callInstr, pushAddr_eq] at h
  cases h
  exact ⟨0, _, 0, _, by decide, ((State.BusRun.refl s).stackWrite s.sp _).stackWrite (s.sp - 1) _,
    ((State.BusRun.refl _).charge 6).setPc _⟩

theorem returnInstr_runs {s t : State} (h : returnInstr s = .next t) :
    s.RunsWith (fun _ u => u.setSp (u.sp + 1 + 1)) t := by
  rw [returnInstr, pullAddr_eq] at h
  cases h
  exact ⟨0, s, 0, _, by decide, .refl s, ((State.BusRun.refl _).charge 6).setPc _⟩

/-- R192: what taking a trap does to the registers: three pushes, then `I` is set. -/
def trapEffect (u : State) : State := (u.setSp (u.sp - 1 - 1 - 1)).setFlags { u.flags with i := true }

theorem busRead16_busRun {addr : Addr} {s : State} {r : Addr × State} (h : busRead16 addr s = .next r) :
    s.BusRun 0 r.2 := by
  obtain ⟨lo, hlo, h⟩ := andThen_eq_next h
  obtain ⟨hi, hhi, h⟩ := andThen_eq_next h
  cases h
  exact (busRead_busRun hlo).trans (busRead_busRun hhi)

theorem takeTrap_runs {ret vector : Addr} {cycles : Nat} (hc : 2 ≤ cycles) {s t : State}
    (h : takeTrap ret vector cycles s = .next t) : s.RunsWith (fun _ u => trapEffect u) t := by
  rw [takeTrap, pushAddr_eq, andThen_next, push_eq, andThen_next] at h
  obtain ⟨d, hd, h⟩ := andThen_eq_next h
  cases h
  exact ⟨0, _, 0, _, by omega,
    (((State.BusRun.refl s).stackWrite s.sp _).stackWrite (s.sp - 1) _).stackWrite (s.sp - 1 - 1) _,
    ((busRead16_busRun hd).charge cycles).setPc _⟩

/-- R193: what returning from a trap does to the registers: the flags from the first byte, three pulls. -/
def untrapEffect (p : Byte) (u : State) : State := (u.setSp (u.sp + 1 + 1 + 1)).setFlags (pulledFlags p)

theorem returnFromTrap_runs {cycles : Nat} (hc : 2 ≤ cycles) {s t : State} (h : returnFromTrap cycles s = .next t) :
    s.RunsWith untrapEffect t := by
  rw [returnFromTrap, pull_eq, andThen_next, pullAddr_eq] at h
  cases h
  exact ⟨_, s, 0, _, by omega, .refl s, ((State.BusRun.refl _).charge cycles).setPc _⟩

/-- What a mnemonic does to the registers and flags, given the data byte `v` its instruction works on. -/
def cpuEffect (m : Mnemonic) (o : Operand) (v : Byte) (u : State) : State :=
  match m with
  | .adc => u.adc v
  | .alr => u.alr v
  | .and => andEffect u v
  | .asl => modifyEffect o (shiftModify aslByte) v u
  | .bit => u.bitTest v
  | .brk => trapEffect u
  | .clc => clcEffect u
  | .cld => cldEffect u
  | .cli => cliEffect u
  | .clv => clvEffect u
  | .cmp => cmpEffect u v
  | .cpx => cpxEffect u v
  | .cpy => cpyEffect u v
  | .dcp => modifyEffect o dcpModify v u
  | .dec => modifyEffect o decModify v u
  | .dex => dexEffect u
  | .dey => deyEffect u
  | .eor => eorEffect u v
  | .inc => modifyEffect o incModify v u
  | .inx => inxEffect u
  | .iny => inyEffect u
  | .jsr => u.setSp (u.sp - 1 - 1)
  | .lax => laxEffect u v
  | .lda => u.loadA v
  | .ldx => u.loadX v
  | .ldy => u.loadY v
  | .lsr => modifyEffect o (shiftModify lsrByte) v u
  | .ora => oraEffect u v
  | .pha | .php => u.setSp (u.sp - 1)
  | .pla => (u.setSp (u.sp + 1)).loadA v
  | .plp => (u.setSp (u.sp + 1)).setFlags (pulledFlags v)
  | .rol => modifyEffect o (shiftModify rolByte) v u
  | .ror => modifyEffect o (shiftModify rorByte) v u
  | .rti => untrapEffect v u
  | .rts => u.setSp (u.sp + 1 + 1)
  | .sbc => u.sbc v
  | .sbx => u.sbx v
  | .sec => secEffect u
  | .sed => sedEffect u
  | .sei => seiEffect u
  | .slo => modifyEffect o sloModify v u
  | .tax => taxEffect u
  | .tay => tayEffect u
  | .tsx => tsxEffect u
  | .txa => txaEffect u
  | .txs => txsEffect u
  | .tya => tyaEffect u
  | .sta | .stx | .sty | .sax | .nop | .jmp | .bcc | .bcs | .beq | .bmi | .bne | .bpl | .bvc | .bvs => u

/-- Every completed instruction is accesses and charges around the effect of its mnemonic. -/
theorem exec_runs {i : Instr} {s t : State} (h : exec i s = .next t) :
    s.RunsWith (cpuEffect i.mnemonic i.operand) t := by
  rw [exec_eq] at h
  generalize i.mnemonic = m, i.operand = o at h ⊢
  cases m
  case adc | alr | and | bit | cmp | cpx | cpy | eor | lax | lda | ldx | ldy | ora | sbc | sbx => exact readInstr_runs h
  case asl | lsr | rol | ror | dec | inc | dcp | slo => exact modifyAny_runs h
  case sta | stx | sty | sax => exact storeInstr_runs h
  case bcc | bcs | beq | bmi | bne | bpl | bvc | bvs => exact branchInstr_runs h
  case jmp => exact jumpInstr_runs (two_le_jumpCycles o) h
  case nop => exact nopAny_runs h
  case pha | php => exact pushInstr_runs (by decide) h
  case pla => exact pullInstr_runs (by decide) h
  case plp => exact pullInstr_runs (sem := fun t p => t.setFlags (pulledFlags p)) (by decide) h
  case jsr => exact callInstr_runs h
  case rts => exact returnInstr_runs h
  case brk => exact takeTrap_runs (by decide) h
  case rti => exact returnFromTrap_runs (by decide) h
  all_goals exact impliedInstr_runs h

end Sys2Proof.Machine
end

section
/-! PROOF. What each effect leaves unchanged, and the statements on the Clock, the registers, the flags, the run status and
the stack that follow from it. -/

namespace Sys2Proof.Machine

/-! ADC and SBC write A, N, V, Z and C, and in decimal mode they draw (R141 to R144). -/

section
variable (s : State) (v : Byte)

@[simp] theorem State.adc_x : (s.adc v).x = s.x := by unfold State.adc; split <;> rfl
@[simp] theorem State.adc_y : (s.adc v).y = s.y := by unfold State.adc; split <;> rfl
@[simp] theorem State.adc_sp : (s.adc v).sp = s.sp := by unfold State.adc; split <;> rfl
@[simp] theorem State.adc_flags_d : (s.adc v).flags.d = s.flags.d := by unfold State.adc; split <;> rfl
@[simp] theorem State.adc_flags_i : (s.adc v).flags.i = s.flags.i := by unfold State.adc; split <;> rfl

@[simp] theorem State.sbc_x : (s.sbc v).x = s.x := by unfold State.sbc; split <;> rfl
@[simp] theorem State.sbc_y : (s.sbc v).y = s.y := by unfold State.sbc; split <;> rfl
@[simp] theorem State.sbc_sp : (s.sbc v).sp = s.sp := by unfold State.sbc; split <;> rfl
@[simp] theorem State.sbc_flags_d : (s.sbc v).flags.d = s.flags.d := by unfold State.sbc; split <;> rfl
@[simp] theorem State.sbc_flags_i : (s.sbc v).flags.i = s.flags.i := by unfold State.sbc; split <;> rfl

end

section
variable (m : Mnemonic) (o : Operand) (v : Byte) (u : State)

/-- The effect of an instruction is on A, X, Y, S, the flags and the draws alone. -/
theorem cpuEffect_frame : cpuEffect m o v u = { u with
    a := (cpuEffect m o v u).a, x := (cpuEffect m o v u).x, y := (cpuEffect m o v u).y
    sp := (cpuEffect m o v u).sp, flags := (cpuEffect m o v u).flags, draws := (cpuEffect m o v u).draws } := by
  cases m
  case adc => simp only [cpuEffect, State.adc]; split <;> rfl
  case sbc => simp only [cpuEffect, State.sbc]; split <;> rfl
  all_goals rfl

@[simp] theorem cpuEffect_clock : (cpuEffect m o v u).clock = u.clock := by rw [cpuEffect_frame]
@[simp] theorem cpuEffect_mem : (cpuEffect m o v u).mem = u.mem := by rw [cpuEffect_frame]
@[simp] theorem cpuEffect_params : (cpuEffect m o v u).params = u.params := by rw [cpuEffect_frame]
@[simp] theorem cpuEffect_quit : (cpuEffect m o v u).quit = u.quit := by rw [cpuEffect_frame]
@[simp] theorem cpuEffect_fault : (cpuEffect m o v u).fault = u.fault := by rw [cpuEffect_frame]

end

section
variable {m : Mnemonic} {o : Operand} (v : Byte) (u : State)

/-- R12: the writers of A. -/
theorem cpuEffect_a (hm : m ∉ [Mnemonic.lda, .lax, .txa, .tya, .pla, .adc, .sbc, .and, .ora, .eor, .alr, .slo])
    (ho : o ≠ .acc) : (cpuEffect m o v u).a = u.a := by
  cases m
  case lda | lax | txa | tya | pla | adc | sbc | and | ora | eor | alr | slo => exact absurd (by decide) hm
  case asl | lsr | rol | ror | dec | inc | dcp => simp only [cpuEffect, modifyEffect_memory ho]; rfl
  all_goals rfl

/-- R12: the writers of X. -/
theorem cpuEffect_x (hm : m ∉ [Mnemonic.ldx, .lax, .tax, .tsx, .inx, .dex, .sbx]) : (cpuEffect m o v u).x = u.x := by
  cases m
  case ldx | lax | tax | tsx | inx | dex | sbx => exact absurd (by decide) hm
  case adc | sbc => simp [cpuEffect]
  all_goals rfl

/-- R12: the writers of Y. -/
theorem cpuEffect_y (hm : m ∉ [Mnemonic.ldy, .tay, .iny, .dey]) : (cpuEffect m o v u).y = u.y := by
  cases m
  case ldy | tay | iny | dey => exact absurd (by decide) hm
  case adc | sbc => simp [cpuEffect]
  all_goals rfl

/-- R12: the writers of S. -/
theorem cpuEffect_sp (hm : m ∉ [Mnemonic.txs, .pha, .php, .pla, .plp, .jsr, .rts, .brk, .rti]) :
    (cpuEffect m o v u).sp = u.sp := by
  cases m
  case txs | pha | php | pla | plp | jsr | rts | brk | rti => exact absurd (by decide) hm
  case adc | sbc => simp [cpuEffect]
  all_goals rfl

/-- R20: the instructions that write no flag. -/
theorem cpuEffect_flags (hm : m ∈ [Mnemonic.sta, .stx, .sty, .sax, .txs, .pha, .php, .jmp, .jsr, .rts, .nop, .bpl, .bmi,
    .bvc, .bvs, .bcc, .bcs, .bne, .beq]) : (cpuEffect m o v u).flags = u.flags := by
  cases m
  case sta | stx | sty | sax | txs | pha | php | jmp | jsr | rts | nop | bpl | bmi | bvc | bvs | bcc | bcs | bne | beq =>
    rfl
  all_goals exact absurd hm (by decide)

/-- R20: the flag instructions and BRK leave N and Z. -/
theorem cpuEffect_flags_nz (hm : m ∈ [Mnemonic.clc, .sec, .cld, .sed, .cli, .sei, .clv, .brk]) :
    (cpuEffect m o v u).flags.n = u.flags.n ∧ (cpuEffect m o v u).flags.z = u.flags.z := by
  cases m
  case clc | sec | cld | sed | cli | sei | clv | brk => exact ⟨rfl, rfl⟩
  all_goals exact absurd hm (by decide)

/-- R20: the writers of V. -/
theorem cpuEffect_flags_v (hm : m ∉ [Mnemonic.adc, .sbc, .bit, .clv, .plp, .rti]) :
    (cpuEffect m o v u).flags.v = u.flags.v := by
  cases m
  case adc | sbc | bit | clv | plp | rti => exact absurd (by decide) hm
  all_goals rfl

/-- R20: the writers of D. -/
theorem cpuEffect_flags_d (hm : m ∉ [Mnemonic.cld, .sed, .plp, .rti]) : (cpuEffect m o v u).flags.d = u.flags.d := by
  cases m
  case cld | sed | plp | rti => exact absurd (by decide) hm
  case adc | sbc => simp [cpuEffect]
  all_goals rfl

/-- R20: the writers of I. -/
theorem cpuEffect_flags_i (hm : m ∉ [Mnemonic.cli, .sei, .brk, .plp, .rti]) :
    (cpuEffect m o v u).flags.i = u.flags.i := by
  cases m
  case cli | sei | brk | plp | rti => exact absurd (by decide) hm
  case adc | sbc => simp [cpuEffect]
  all_goals rfl

/-- R20: the writers of C. -/
theorem cpuEffect_flags_c (hm : m ∉ [Mnemonic.adc, .sbc, .cmp, .cpx, .cpy, .dcp, .sbx, .asl, .lsr, .rol, .ror, .slo,
    .alr, .clc, .sec, .plp, .rti]) : (cpuEffect m o v u).flags.c = u.flags.c := by
  cases m
  case adc | sbc | cmp | cpx | cpy | dcp | sbx | asl | lsr | rol | ror | slo | alr | clc | sec | plp | rti =>
    exact absurd (by decide) hm
  all_goals rfl

end

/-- R21, R108: a completed instruction takes at least 2 cycles. -/
theorem exec_clock {i : Instr} {s t : State} (h : exec i s = .next t) : s.clockAfter 2 ≤ t.clock := by
  obtain ⟨v, u, j, k, hjk, hu, ht⟩ := exec_runs h
  have hc := Nat.mul_le_mul_right s.params.cycleToClock hjk
  have hcu := hu.clock
  have hct := ht.clock
  simp only [State.clockAfter, cpuEffect_clock, cpuEffect_params, hu.params, Nat.add_mul] at hc hcu hct ⊢
  omega

/-- R51: no instruction changes a ROM byte. -/
theorem exec_rom {i : Instr} {s t : State} (h : exec i s = .next t) {o : Nat} (ho : o < 0x1000) :
    Memory.read t.mem (romKey o) = Memory.read s.mem (romKey o) := by
  obtain ⟨v, u, j, k, _, hu, ht⟩ := exec_runs h
  rw [ht.rom o ho, cpuEffect_mem, hu.rom o ho]

/-- R32, R60: no instruction changes the launch parameters, the quit signal or the recorded fault. -/
theorem exec_status {i : Instr} {s t : State} (h : exec i s = .next t) :
    t.params = s.params ∧ t.quit = s.quit ∧ t.fault = s.fault := by
  obtain ⟨v, u, j, k, _, hu, ht⟩ := exec_runs h
  refine ⟨?_, ?_, ?_⟩
  · rw [ht.params, cpuEffect_params, hu.params]
  · rw [ht.quit, cpuEffect_quit, hu.quit]
  · rw [ht.fault, cpuEffect_fault, hu.fault]

theorem readBytes_frame : ∀ {n : Nat} {addr : Addr} {s : State} {r : List Byte × State},
    readBytes n addr s = .next r → s.BusFrame r.2
  | 0, _, s, r, h => by cases h; exact .refl s
  | n + 1, _, s, r, h => by
    obtain ⟨b, hb, h⟩ := andThen_eq_next h
    obtain ⟨bs, hbs, h⟩ := andThen_eq_next h
    cases h
    exact (busRead_frame hb).trans (readBytes_frame (r := bs) hbs)

/-- R105: the fetch only reads. -/
theorem fetch_frame {s : State} {f : Instr × State} (h : fetch s = .next f) : s.BusFrame f.2 := by
  obtain ⟨op, hop, h⟩ := andThen_eq_next h
  split at h
  · cases h
  · obtain ⟨bs, hbs, h⟩ := andThen_eq_next h
    split at h <;> cases h
    exact (busRead_frame hop).trans (readBytes_frame hbs)

/-- R32: a recorded fault is answered again. -/
theorem boundary_of_fault {s : State} {f : Fault} (h : s.fault = some f) : boundary s = .fault f := by
  simp [boundary, h]

/-- R358: at the end of the run there is no further step. -/
theorem boundary_of_ended {s : State} (hf : s.fault = none) (he : s.ended = true) : boundary s = .refused .runEnded := by
  simp [boundary, hf, he]

theorem boundary_eq_next {s t : State} (h : boundary s = .next t) : t = s := by
  unfold boundary at h
  split at h
  · cases h
  · split at h <;> cases h
    rfl

theorem State.ended_of_quit {s : State} (h : s.quit = true) : s.ended = true := by simp [State.ended, h]

theorem State.ended_of_stopClock {s : State} {c : Nat} (h : s.params.stopClock = some c) (hc : c ≤ s.clock) :
    s.ended = true := by simp [State.ended, h, hc]

theorem step_of_fault {s : State} {f : Fault} (h : s.fault = some f) : step s = .fault f := by
  rw [step, boundary_of_fault h, andThen_fault]

theorem step_of_ended {s : State} (hf : s.fault = none) (he : s.ended = true) : step s = .refused .runEnded := by
  rw [step, boundary_of_ended hf he, andThen_refused]

/-- R105: a step that completes is an instruction that completes after the reads of its fetch. -/
theorem step_eq_next {s t : State} (h : step s = .next t) : ∃ i u, s.BusFrame u ∧ exec i u = .next t := by
  obtain ⟨s0, hs, h⟩ := andThen_eq_next h
  obtain ⟨f, hf, hx⟩ := andThen_eq_next h
  rw [boundary_eq_next hs] at hf
  exact ⟨f.1, f.2, fetch_frame hf, hx⟩

/-- R42, R43: the three images of `RAM[k]` in the zero page and the stack window. -/
theorem route_ramImages : ∀ k < 0x80, route (BitVec.ofNat 16 (0x0080 + k)) = some (.ram k) ∧
    route (BitVec.ofNat 16 (0x0180 + k)) = some (.ram k) ∧ route (BitVec.ofNat 16 (0x0100 + k)) = some (.ram k) := by
  decide

theorem State.peek_ram {s : State} {addr : Addr} {k : Nat} (h : route addr = some (.ram k)) :
    s.peek addr = some (Memory.read s.mem (ramKey k)) := by rw [State.peek, h]

/-- `S` counts down modulo 256 (R15). -/
theorem sub_one_eq_ofNat (b : Byte) : b - 1 = BitVec.ofNat 8 (b.toNat + 255) := by
  apply BitVec.eq_of_toNat_eq
  simp [BitVec.toNat_sub, Nat.add_comm]

/-- `S` counts up modulo 256 (R15). -/
theorem add_one_eq_ofNat (b : Byte) : b + 1 = BitVec.ofNat 8 (b.toNat + 1) := by
  apply BitVec.eq_of_toNat_eq
  simp

end Sys2Proof.Machine

open Sys2Proof Sys2Proof.Machine

/-- Settles O10: the fetch leaves the Clock, and the instruction takes at least two cycles. -/
theorem stepAdvancesClock : Obligations.StepAdvancesClock := by
  unfold Obligations.StepAdvancesClock
  intro s t h
  obtain ⟨i, u, hu, hx⟩ := step_eq_next h
  rw [← hu.clock, ← hu.params]
  exact exec_clock hx

/-- Settles O11: the fetch only reads, and no instruction writes ROM, the parameters or the run status. -/
theorem stepKeepsRomAndParameters : Obligations.StepKeepsRomAndParameters := by
  unfold Obligations.StepKeepsRomAndParameters
  intro s t h
  obtain ⟨i, u, hu, hx⟩ := step_eq_next h
  obtain ⟨hp, hq, hf⟩ := exec_status hx
  have hb := hu.busRun
  exact ⟨fun o ho => (exec_rom hx ho).trans (hb.rom o ho), hp.trans hb.params, hq.trans hb.quit, hf.trans hb.fault⟩

/-- Settles O45: accesses and charges keep the registers, and the effect of an instruction writes those R12 lists. -/
theorem registerFrame : Obligations.RegisterFrame := by
  unfold Obligations.RegisterFrame
  intro i s t h
  obtain ⟨v, u, j, k, _, hu, ht⟩ := exec_runs h
  rw [ht.a, ht.x, ht.y, ht.sp, ← hu.a, ← hu.x, ← hu.y, ← hu.sp]
  exact ⟨cpuEffect_a v u, cpuEffect_x v u, cpuEffect_y v u, cpuEffect_sp v u⟩

/-- Settles O46: accesses and charges keep the flags, and the effect of an instruction writes those R20 lists. -/
theorem flagFrame : Obligations.FlagFrame := by
  unfold Obligations.FlagFrame
  intro i s t h
  obtain ⟨v, u, j, k, _, hu, ht⟩ := exec_runs h
  rw [ht.flags, ← hu.flags]
  exact ⟨cpuEffect_flags v u, cpuEffect_flags_nz v u, cpuEffect_flags_v v u, cpuEffect_flags_d v u,
    cpuEffect_flags_i v u, cpuEffect_flags_c v u⟩

/-- Settles O6: the boundary comes before the fetch, and a fault that a step answers is the one recorded. -/
theorem boundaryStops : Obligations.BoundaryStops := by
  unfold Obligations.BoundaryStops
  refine ⟨fun s f h => step_of_fault h, fun s hf hq => step_of_ended hf (State.ended_of_quit hq),
    fun s c hf hs hc => step_of_ended hf (State.ended_of_stopClock hs hc), fun s f h => ?_⟩
  rw [h]
  rfl

/-- Settles O13: push and pull by their equations, the three images by the router. -/
theorem stackIsZeroPageRam : Obligations.StackIsZeroPageRam := by
  unfold Obligations.StackIsZeroPageRam
  intro s
  refine ⟨fun v => ?_, ?_, fun k hk => ?_⟩
  · rw [push_eq, sub_one_eq_ofNat]
    rfl
  · rw [pull_eq, add_one_eq_ofNat]
    rfl
  · obtain ⟨hz, hw, hs⟩ := route_ramImages k hk
    exact ⟨State.peek_ram hz, State.peek_ram hw, State.peek_ram hs⟩

end

section
/-! PROOF. The memory map as arithmetic on the low 13 bits of an address, and what an access to the cartridge, RAM and the
RIOT I/O registers answers. -/

namespace Sys2Proof.Machine

theorem busAddr_lt (addr : Addr) : busAddr addr < 0x2000 := Nat.mod_lt _ (by decide)

/-! The selections of R41 as arithmetic. -/

theorem selectsCart_eq {a : Nat} (h : a < 0x2000) : selectsCart a = decide (0x1000 ≤ a) := by
  rw [selectsCart, Nat.testBit_eq_decide_div_mod_eq, decide_eq_decide]; omega

theorem selectsRiot_eq (a : Nat) : selectsRiot a = decide (0x80 ≤ a % 0x100) := by
  rw [selectsRiot, Nat.testBit_eq_decide_div_mod_eq, decide_eq_decide]; omega

theorem selectsTia_eq (a : Nat) : selectsTia a = decide (a % 0x100 < 0x80) := by
  rw [selectsTia, Nat.testBit_eq_decide_div_mod_eq, ← decide_not, decide_eq_decide]; omega

theorem testBit_nine_eq (a : Nat) : a.testBit 9 = decide (0x200 ≤ a % 0x400) := by
  rw [Nat.testBit_eq_decide_div_mod_eq, decide_eq_decide]; omega

theorem inStackWindow_eq (a : Nat) : inStackWindow a = decide (0x100 ≤ a ∧ a < 0x200) := by
  simp [inStackWindow]

/-- R41: the router by ranges of the low 13 bits. -/
theorem route_eq (addr : Addr) : route addr =
    if 0x1000 ≤ busAddr addr then some (.cart (busAddr addr % 0x1000))
    else if 0x80 ≤ busAddr addr % 0x100 then
      if 0x200 ≤ busAddr addr % 0x400 then some .riotIo else some (.ram (busAddr addr % 0x80))
    else if 0x100 ≤ busAddr addr ∧ busAddr addr < 0x200 then some (.ram (busAddr addr % 0x80))
    else some (.tia (busAddr addr % 0x40) (busAddr addr % 0x10)) := by
  simp only [route, selectsCart_eq (busAddr_lt addr), selectsRiot_eq, testBit_nine_eq, inStackWindow_eq, selectsTia_eq,
    decide_eq_true_eq]
  by_cases hr : 0x80 ≤ busAddr addr % 0x100
  · simp only [hr, if_true]
  · simp only [hr, Nat.lt_of_not_le hr, if_false, if_true]

/-- R40: only the low 13 bits are significant. -/
theorem busAddr_image (addr : Addr) (k : Nat) : busAddr (addr + BitVec.ofNat 16 (k * 0x2000)) = busAddr addr := by
  simp only [busAddr, BitVec.toNat_add, BitVec.toNat_ofNat]; omega

theorem route_congr {a b : Addr} (h : busAddr a = busAddr b) : route a = route b := by
  simp only [route, h]

/-- R42, R49: two RAM bytes, or a RAM and a ROM byte, have different keys. -/
theorem ramKey_inj {i k : Nat} : ramKey i = ramKey k ↔ i = k := by simp [ramKey]

theorem ramKey_ne_romKey {i : Nat} (h : i < 0x80) (o : Nat) : ramKey i ≠ romKey o := by
  simp only [ramKey, romKey]; omega

theorem busWrite_ram {addr : Addr} {k : Nat} (h : route addr = some (.ram k)) (v : Byte) (s : State) :
    busWrite addr v s = .next { s with mem := Memory.write s.mem (ramKey k) v } := by
  rw [busWrite, h]; rfl

theorem busRead_ram {addr : Addr} {k : Nat} (h : route addr = some (.ram k)) (s : State) :
    busRead addr s = .next (Memory.read s.mem (ramKey k), s) := by
  rw [busRead, h]

theorem busRead_cart {addr : Addr} {o : Nat} (h : route addr = some (.cart o)) (s : State) :
    busRead addr s = answered addr (cartRead o s) := by
  rw [busRead, h]

theorem busWrite_cart {addr : Addr} {o : Nat} (h : route addr = some (.cart o)) (v : Byte) (s : State) :
    busWrite addr v s = answered addr (cartWrite o v s) := by
  rw [busWrite, h]

theorem busRead_riot {addr : Addr} (h : route addr = some .riotIo) (s : State) :
    busRead addr s = answered addr (riotRead addr s) := by
  rw [busRead, h]

theorem busWrite_riot {addr : Addr} (h : route addr = some .riotIo) (v : Byte) (s : State) :
    busWrite addr v s = answered addr (riotWrite addr v s) := by
  rw [busWrite, h]

theorem storageKey_of_cart {addr : Addr} {o : Nat} (h : route addr = some (.cart o)) :
    storageKey addr = some (romKey o) := by rw [storageKey, h]

theorem storageKey_of_ram {addr : Addr} {i : Nat} (h : route addr = some (.ram i)) :
    storageKey addr = some (ramKey i) := by rw [storageKey, h]

/-- What `peek` gives is determined by the launch parameters and the storage byte behind the address. -/
theorem State.peek_congr {s t : State} {a : Addr} (hp : t.params = s.params)
    (hm : ∀ k, storageKey a = some k → Memory.read t.mem k = Memory.read s.mem k) : t.peek a = s.peek a := by
  obtain ⟨tg, hr⟩ := route_isSome a
  cases tg with
  | cart o => simp only [State.peek, hr, hp, hm _ (storageKey_of_cart hr)]
  | ram i => simp only [State.peek, hr, hm _ (storageKey_of_ram hr)]
  | riotIo => simp only [State.peek, hr]
  | tia r p => simp only [State.peek, hr]

/-- A storage key that is the key of `RAM[k]` is so by the router. -/
theorem route_of_storageKey_ram {a : Addr} {k : Nat} (hk : k < 0x80) (h : storageKey a = some (ramKey k)) :
    route a = some (.ram k) := by
  unfold storageKey at h
  split at h
  · next o hr => exact absurd (Option.some.inj h).symm (ramKey_ne_romKey hk o)
  · next i hr => rw [hr, ramKey_inj.1 (Option.some.inj h)]
  · cases h

/-- R50: the offset the cartridge is handed is the low 12 bits of the address. -/
theorem cartOffset_of_route {addr : Addr} {o : Nat} (h : route addr = some (.cart o)) :
    cartOffset o = addr.setWidth 12 := by
  have ho : o = busAddr addr % 0x1000 := by
    rw [route_eq] at h
    split_ifs at h <;> cases h
    rfl
  apply BitVec.eq_of_toNat_eq
  simp only [ho, cartOffset, busAddr, BitVec.toNat_ofNat, BitVec.toNat_setWidth]
  omega

/-- R40, R53: the RIOT I/O collaborator is handed the low 13 bits of the address (log 19). -/
theorem riotAddr_eq (addr : Addr) : riotAddr addr = BitVec.ofNat 16 (addr.toNat % 0x2000) := by
  apply BitVec.eq_of_toNat_eq
  have h := Nat.and_two_pow_sub_one_eq_mod addr.toNat 13
  have hlt : addr.toNat % 0x2000 < 2 ^ 16 := by omega
  simp only [riotAddr, BitVec.toNat_and, BitVec.toNat_ofNat, Nat.mod_eq_of_lt hlt]
  exact h

end Sys2Proof.Machine

open Sys2Proof Sys2Proof.Machine

/-- Settles O12: each range of the map picks one branch of the router, and the images agree on the low 13 bits. -/
theorem routerFollowsMap : Obligations.RouterFollowsMap := by
  unfold Obligations.RouterFollowsMap
  refine ⟨fun addr a ha => ?_, fun addr k => route_congr (busAddr_image addr k), by decide, by decide, by decide,
    by decide⟩
  have hlt : a < 0x2000 := ha ▸ busAddr_lt addr
  have hb : busAddr addr = a := ha.symm
  rw [route_eq, hb]
  refine ⟨fun h => ?_, fun h1 h2 h3 => ?_, fun h1 h2 h3 => ?_, fun h1 h2 => ?_, fun h1 h2 h3 => ?_⟩
  · rw [if_pos h, Nat.mod_eq_sub_mod h, Nat.mod_eq_of_lt (by omega)]
  · rw [if_neg (by omega), if_pos h2, if_neg (by omega)]
  · rw [if_neg (by omega), if_pos h2, if_pos h3]
  · rw [if_neg (by omega), if_neg (by omega), if_pos (by omega)]
  · rw [if_neg (by omega), if_neg (by omega), if_neg (by omega)]

/-- Settles O14: a RAM write is a write of one storage key, which keeps the canonical form. -/
theorem ramReadsBackWrites : Obligations.RamReadsBackWrites := by
  unfold Obligations.RamReadsBackWrites
  intro s addr k v hwf hr
  have hk : k < 0x80 := route_range hr
  refine ⟨_, busWrite_ram hr v s, Memory.wf_write v (Memory.isKey_ram hk) hwf, fun b hb => ?_, fun b hb => ?_⟩
  · rw [busRead_ram hb, Memory.read_write _ v hwf]
  · refine State.peek_congr rfl fun j hj => Memory.read_write_ne (fun hjk => hb ?_) v s.mem
    exact route_of_storageKey_ram hk (hjk ▸ hj)

/-- Settles O15: the router hands the access over, and the collaborator's answer or refusal is the bus access's. -/
theorem cartridgeAndRiotAccesses : Obligations.CartridgeAndRiotAccesses := by
  unfold Obligations.CartridgeAndRiotAccesses
  intro s addr a v ha
  rw [← riotAddr_eq] at ha
  subst ha
  refine ⟨fun o hr hc => ?_, fun o k hr hc => ?_, fun hr hio => ?_, fun k hr hio => ?_⟩
  · rw [busRead_cart hr, busWrite_cart hr, cartRead_singleBank hc, cartWrite_singleBank hc]
    exact ⟨rfl, rfl⟩
  · rw [busRead_cart hr, busWrite_cart hr, ← cartOffset_of_route hr]
    simp only [cartRead, cartWrite, hc]
    constructor
    · cases Config.cartRead k s.cart (cartOffset o) <;> rfl
    · cases Config.cartWrite k s.cart (cartOffset o) v <;> rfl
  · rw [busRead_riot hr, busWrite_riot hr, riotRead, riotWrite, State.riotTakes_oracle hio, State.riotTakes_oracle hio]
    exact ⟨rfl, rfl⟩
  · rw [busRead_riot hr, busWrite_riot hr]
    simp only [riotRead, riotWrite, State.riotTakes, hio]
    constructor <;> split <;> rfl

end

section
/-! PROOF. Which bus accesses an instruction makes: `exec_accesses` says once that it reads only where it accesses data
(and BRK its vector) and writes only at `storedAddrs`. The frames of memory and of the devices follow by induction over
the accesses. -/

namespace Sys2Proof.Machine

/-! What one bus access leaves unchanged, by the target of its address. -/

/-- R46, R240: a bus read changes of the TIA only what the catch-up changes. -/
theorem busRead_sameRegs {addr : Addr} {s : State} {r : Byte × State} (h : busRead addr s = .next r) :
    s.tia.SameRegs r.2.tia := by
  unfold busRead at h
  split at h
  · obtain ⟨c, hc⟩ := cartRead_frame (answered_eq_next h); rw [hc]; rfl
  · cases h; rfl
  · rw [riotRead_eq_some (answered_eq_next h)]; rfl
  · cases h
    have hc : s.tia.SameRegs s.catchUp.tia := Tia.sameRegs_catchUp s.params s.clock s.tia
    unfold tiaRead
    split <;> exact hc
  · cases h

/-- R51: no bus read changes the `CartState` of the single-bank cartridge. -/
theorem busRead_cartState {addr : Addr} {s : State} {r : Byte × State} (hc : s.params.cart = .singleBank)
    (h : busRead addr s = .next r) : r.2.cart = s.cart := by
  unfold busRead at h
  split at h
  · rw [cartRead_singleBank hc] at h; cases h; rfl
  · cases h; rfl
  · rw [riotRead_eq_some (answered_eq_next h)]; rfl
  · cases h
    unfold tiaRead
    split <;> rfl
  · cases h

/-- R240: a TIA write changes the TIA, the Clock and the events only. -/
theorem tiaWrite_frame {reg : Nat} {v : Byte} {s t : State} (h : tiaWrite reg v s = .next t) :
    t = { s with tia := t.tia, clock := t.clock, events := t.events } := by
  unfold tiaWrite at h
  split at h
  · cases h; rfl
  · obtain ⟨u, hu, ht⟩ := andThen_eq_next h
    cases ht
    obtain ⟨hf, -⟩ := writeReg_frame hu
    rw [hf]
    rfl

/-- R51: no bus write changes the `CartState` of the single-bank cartridge. -/
theorem busWrite_cartState {addr : Addr} {v : Byte} {s t : State} (hc : s.params.cart = .singleBank)
    (h : busWrite addr v s = .next t) : t.cart = s.cart := by
  unfold busWrite at h
  split at h
  · rw [cartWrite_singleBank hc] at h; cases h; rfl
  · cases h; rfl
  · rw [riotWrite_eq_some (answered_eq_next h)]; rfl
  · rw [tiaWrite_frame h]
  · cases h

/-- R41: a bus write outside the TIA region leaves the TIA. -/
theorem busWrite_tia {addr : Addr} {v : Byte} {s t : State} (hr : ∀ reg port, route addr ≠ some (.tia reg port))
    (h : busWrite addr v s = .next t) : t.tia = s.tia := by
  unfold busWrite at h
  split at h
  · obtain ⟨c, hc⟩ := cartWrite_frame (answered_eq_next h); rw [hc]; rfl
  · cases h; rfl
  · rw [riotWrite_eq_some (answered_eq_next h)]; rfl
  · next reg port ht => exact absurd ht (hr reg port)
  · cases h

/-- R42, R43: a bus write changes the storage byte of its own key only. -/
theorem busWrite_read_ne {addr : Addr} {v : Byte} {s t : State} {k : Nat} (hk : storageKey addr ≠ some k)
    (h : busWrite addr v s = .next t) : Memory.read t.mem k = Memory.read s.mem k := by
  rw [busWrite_mem h]
  split
  · next i hr => exact Memory.read_write_ne (fun hki => hk (by rw [storageKey_of_ram hr, hki])) v s.mem
  · rfl

/-- The CPU's own work: nothing changes but the registers, the flags, the Clock and the number of draws. -/
def State.CpuFrame (s t : State) : Prop :=
  t = { s with
    a := t.a, x := t.x, y := t.y, sp := t.sp, pc := t.pc, flags := t.flags, clock := t.clock, draws := t.draws }

/-- `t` is reached from `s` by the CPU's own work, which draws nothing if `NoDraw`, by bus reads at addresses in `R`, and by
bus writes at addresses in `W`. -/
inductive State.Accesses (R : Addr → Prop) (W : List Addr) (NoDraw : Prop) (s : State) : State → Prop where
  | start : Accesses R W NoDraw s s
  | cpu {t u : State} (h : Accesses R W NoDraw s t) (hf : t.CpuFrame u) (hd : NoDraw → u.draws = t.draws) :
      Accesses R W NoDraw s u
  | read {t : State} {addr : Addr} {r : Byte × State} (h : Accesses R W NoDraw s t) (hR : R addr)
      (hr : busRead addr t = .next r) : Accesses R W NoDraw s r.2
  | write {t u : State} {addr : Addr} {v : Byte} (h : Accesses R W NoDraw s t) (hW : addr ∈ W)
      (hw : busWrite addr v t = .next u) : Accesses R W NoDraw s u

section
variable {R : Addr → Prop} {W : List Addr} {NoDraw : Prop} {s t : State}

/-! What accesses leave unchanged. -/

namespace State.Accesses

theorem params (h : s.Accesses R W NoDraw t) : t.params = s.params := by
  induction h with
  | start => rfl
  | cpu _ hf _ ih => rw [hf]; exact ih
  | read _ _ hr ih => exact (busRead_frame hr).params.trans ih
  | write _ _ hw ih => rw [(busWrite_frame hw).1]; exact ih

theorem read_mem (h : s.Accesses R W NoDraw t) {k : Nat} (hk : ∀ b ∈ W, storageKey b ≠ some k) :
    Memory.read t.mem k = Memory.read s.mem k := by
  induction h with
  | start => rfl
  | cpu _ hf _ ih => rw [hf]; exact ih
  | read _ _ hr ih => rw [busRead_frame hr]; exact ih
  | write _ hW hw ih => exact (busWrite_read_ne (hk _ hW) hw).trans ih

theorem sameRegs (h : s.Accesses R W NoDraw t) (hW : ∀ b ∈ W, ∀ reg port, route b ≠ some (.tia reg port)) :
    s.tia.SameRegs t.tia := by
  induction h with
  | start => rfl
  | cpu _ hf _ ih => rw [hf]; exact ih
  | read _ _ hr ih => exact ih.trans (busRead_sameRegs hr)
  | write _ hm hw ih => rw [busWrite_tia (hW _ hm) hw]; exact ih

theorem cart_of_singleBank (h : s.Accesses R W NoDraw t) (hc : s.params.cart = .singleBank) : t.cart = s.cart := by
  induction h with
  | start => rfl
  | cpu _ hf _ ih => rw [hf]; exact ih
  | read h _ hr ih => exact (busRead_cartState (h.params ▸ hc) hr).trans ih
  | write h _ hw ih => exact (busWrite_cartState (h.params ▸ hc) hw).trans ih

theorem cart_of_ram (h : s.Accesses R W NoDraw t) (hR : ∀ a, ¬R a) (hW : ∀ b ∈ W, ∃ k, route b = some (.ram k)) :
    t.cart = s.cart := by
  induction h with
  | start => rfl
  | cpu _ hf _ ih => rw [hf]; exact ih
  | read _ hm _ _ => exact absurd hm (hR _)
  | write _ hm hw ih =>
    obtain ⟨k, hk⟩ := hW _ hm
    rw [busWrite_ram hk] at hw
    cases hw
    exact ih

/-- Reads from the cartridge and writes to RAM reach no device. -/
theorem devices (h : s.Accesses R W NoDraw t) (hR : ∀ a, R a → ∃ o, route a = some (.cart o))
    (hW : ∀ b ∈ W, ∃ k, route b = some (.ram k)) :
    t.tia = s.tia ∧ t.events = s.events ∧ (NoDraw → t.draws = s.draws) := by
  induction h with
  | start => exact ⟨rfl, rfl, fun _ => rfl⟩
  | cpu _ hf hd ih =>
    obtain ⟨ht, he, hn⟩ := ih
    refine ⟨?_, ?_, fun h => (hd h).trans (hn h)⟩ <;> rw [hf]
    · exact ht
    · exact he
  | read _ hm hr ih =>
    obtain ⟨o, ho⟩ := hR _ hm
    rw [busRead_cart ho] at hr
    obtain ⟨c, hc⟩ := cartRead_frame (answered_eq_next hr)
    rw [hc]
    exact ih
  | write _ hm hw ih =>
    obtain ⟨k, hk⟩ := hW _ hm
    rw [busWrite_ram hk] at hw
    cases hw
    exact ih

/-! The steps the shared operations are made of. -/

theorem charge (h : s.Accesses R W NoDraw t) (n : Nat) : s.Accesses R W NoDraw (t.charge n) := h.cpu rfl fun _ => rfl

theorem setPc (h : s.Accesses R W NoDraw t) (p : Addr) : s.Accesses R W NoDraw (t.setPc p) := h.cpu rfl fun _ => rfl

theorem advance (h : s.Accesses R W NoDraw t) (n : Nat) : s.Accesses R W NoDraw (t.advance n) := h.setPc _

theorem setSp (h : s.Accesses R W NoDraw t) (v : Byte) : s.Accesses R W NoDraw (t.setSp v) := h.cpu rfl fun _ => rfl

theorem setFlags (h : s.Accesses R W NoDraw t) (f : Flags) : s.Accesses R W NoDraw (t.setFlags f) :=
  h.cpu rfl fun _ => rfl

theorem setA (h : s.Accesses R W NoDraw t) (v : Byte) : s.Accesses R W NoDraw (t.setA v) := h.cpu rfl fun _ => rfl

/-- R15: a push writes to the stack byte and moves `S` on. -/
theorem push {v : Byte} {u : State} (h : s.Accesses R W NoDraw t) (hW : stackAddr t.sp ∈ W)
    (hp : Machine.push v t = .next u) : s.Accesses R W NoDraw u ∧ u.sp = t.sp - 1 := by
  have hsp : u.sp = t.sp - 1 := by rw [push_eq] at hp; cases hp; rfl
  obtain ⟨w, hw, hp⟩ := andThen_eq_next hp
  cases hp
  exact ⟨(h.write hW hw).setSp _, hsp⟩

/-- R57: a pushed address takes two stack bytes. -/
theorem pushAddr {ret : Addr} {u : State} (h : s.Accesses R W NoDraw t) (h0 : stackAddr t.sp ∈ W)
    (h1 : stackAddr (t.sp - 1) ∈ W) (hp : Machine.pushAddr ret t = .next u) :
    s.Accesses R W NoDraw u ∧ u.sp = t.sp - 2 := by
  obtain ⟨w, hw, hp⟩ := andThen_eq_next hp
  obtain ⟨hw, hsp⟩ := h.push h0 hw
  obtain ⟨hu, hsp'⟩ := hw.push (hsp ▸ h1) hp
  exact ⟨hu, by rw [hsp', hsp, BitVec.sub_sub]; rfl⟩

/-- Two bus reads one after the other. -/
theorem readPair {α : Type} {a b : Addr} {f : Byte → Byte → α} {r : α × State} (h : s.Accesses R W NoDraw t) (ha : R a)
    (hb : R b) (hr : (andThen (busRead a t) fun lo => andThen (busRead b lo.2) fun hi => .next (f lo.1 hi.1, hi.2)) =
      .next r) : s.Accesses R W NoDraw r.2 := by
  obtain ⟨lo, hlo, hr⟩ := andThen_eq_next hr
  obtain ⟨hi, hhi, hr⟩ := andThen_eq_next hr
  cases hr
  exact (h.read ha hlo).read hb hhi

end State.Accesses

end

/-- The formats whose effective address lies behind a pointer in memory (R99 to R101). -/
def Operand.hasPointer : Operand → Bool
  | .ind _ | .izx _ | .izy _ => true
  | _ => false

section
variable {R : Addr → Prop} {W : List Addr} {NoDraw : Prop} {s t : State} {o : Operand}

/-! The accesses of the shared operations. -/

theorem zeroPagePointer_accesses {p : Byte} {r : Addr × State} (hR : ∀ a, R a) (h : zeroPagePointer p s = .next r) :
    s.Accesses R W NoDraw r.2 := State.Accesses.start.readPair (hR _) (hR _) h

theorem indirectTarget_accesses {ptr : Addr} {r : Addr × State} (hR : ∀ a, R a) (h : indirectTarget ptr s = .next r) :
    s.Accesses R W NoDraw r.2 := State.Accesses.start.readPair (hR _) (hR _) h

theorem effective_accesses {e : Effective × State} (hR : o.hasPointer = true → ∀ a, R a)
    (h : effective o s = .next e) : s.Accesses R W NoDraw e.2 := by
  cases o with
  | ind w =>
    obtain ⟨p, hp, h⟩ := andThen_eq_next h
    have hr : s.Accesses R W NoDraw p.2 := indirectTarget_accesses (hR rfl) hp
    cases h
    exact hr
  | izx z | izy z =>
    obtain ⟨p, hp, h⟩ := andThen_eq_next h
    have hr : s.Accesses R W NoDraw p.2 := zeroPagePointer_accesses (hR rfl) hp
    cases h
    exact hr
  | _ => cases h; exact .start

theorem readOperand_accesses {ea : Addr} {r : Byte × State} (hR : (∀ a, R a) ∨ ∃ b, o = .imm b)
    (ht : s.Accesses R W NoDraw t) (h : readOperand o ea t = .next r) : s.Accesses R W NoDraw r.2 := by
  rcases hR with hR | ⟨b, rfl⟩
  · cases o with
    | imm b => cases h; exact ht
    | _ => exact ht.read (hR ea) h
  · cases h
    exact ht

theorem readInstr_accesses {sem : State → Byte → State} (hR : (∀ a, R a) ∨ ∃ b, o = .imm b)
    (hf : ∀ v u, State.CpuFrame u (sem u v)) (hd : NoDraw → ∀ v u, u.flags = s.flags → (sem u v).draws = u.draws)
    (h : readInstr o sem s = .next t) : s.Accesses R W NoDraw t := by
  obtain ⟨r, hr, h⟩ := andThen_eq_next h
  obtain ⟨e, he, hr⟩ := andThen_eq_next hr
  obtain ⟨b, hb, hr⟩ := andThen_eq_next hr
  cases hr
  cases h
  have hp : o.hasPointer = true → ∀ a, R a := by
    rcases hR with hR | ⟨b, rfl⟩
    · exact fun _ => hR
    · exact fun hp => by cases hp
  have hu := (readOperand_accesses hR ((effective_accesses (W := W) (NoDraw := NoDraw) hp he).charge _) hb).charge
    busReadCycles
  have hfl : b.2.flags = s.flags := (((effective_busRun he).charge _).trans (readOperand_busRun hb)).flags
  exact ((hu.cpu (hf _ _) fun hn => hd hn _ _ hfl).charge nullWriteCycles).advance _

theorem storeInstr_accesses {value : State → Byte} (hR : ∀ a, R a)
    (hW : ∀ e, effective o s = .next e → e.1.addr ∈ W) (h : storeInstr o value s = .next t) :
    s.Accesses R W NoDraw t := by
  obtain ⟨a, ha, h⟩ := andThen_eq_next h
  obtain ⟨e, he, ha⟩ := andThen_eq_next ha
  cases ha
  obtain ⟨w, hw, h⟩ := andThen_eq_next h
  cases h
  exact (((((effective_accesses (fun _ => hR) he).charge _).charge nullReadCycles).charge registerWriteCycles).write
    (hW e he) hw).advance _

theorem modifyInstr_accesses {sem : Modify} (hR : ∀ a, R a) (hW : ∀ e, effective o s = .next e → e.1.addr ∈ W)
    (hf : ∀ v u, State.CpuFrame u (sem v u).2) (hd : ∀ v u, (sem v u).2.draws = u.draws)
    (h : modifyInstr o sem s = .next t) : s.Accesses R W NoDraw t := by
  obtain ⟨m, hm, h⟩ := andThen_eq_next h
  obtain ⟨e, he, hm⟩ := andThen_eq_next hm
  obtain ⟨b, hb, hm⟩ := andThen_eq_next hm
  cases hm
  obtain ⟨w, hw, h⟩ := andThen_eq_next h
  cases h
  have hu := (((effective_accesses (W := W) (NoDraw := NoDraw) (fun _ => hR) he).charge _).read (hR _) hb).charge
    busReadCycles
  exact (((hu.cpu (hf _ _) fun _ => hd _ _).charge busWriteCycles).write (hW e he) hw).advance _

theorem accInstr_accesses {sem : Modify} (hf : ∀ v u, State.CpuFrame u (sem v u).2)
    (hd : ∀ v u, (sem v u).2.draws = u.draws) (h : accInstr sem s = .next t) : s.Accesses R W NoDraw t := by
  cases h
  exact ((((State.Accesses.start.charge accReadCycles).cpu (hf _ _) fun _ => hd _ _).charge accWriteCycles).setA
    _).advance 0

theorem modifyAny_accesses {sem : Modify} (hR : o = .acc ∨ ∀ a, R a)
    (hW : o ≠ .acc → ∀ e, effective o s = .next e → e.1.addr ∈ W) (hf : ∀ v u, State.CpuFrame u (sem v u).2)
    (hd : ∀ v u, (sem v u).2.draws = u.draws) (h : modifyAny o sem s = .next t) : s.Accesses R W NoDraw t := by
  by_cases ho : o = .acc
  · subst ho
    exact accInstr_accesses hf hd h
  · refine modifyInstr_accesses (hR.resolve_left ho) (hW ho) hf hd ?_
    cases o with
    | acc => exact absurd rfl ho
    | _ => exact h

theorem impliedInstr_accesses {sem : State → State} (hf : ∀ u, State.CpuFrame u (sem u))
    (hd : ∀ u, (sem u).draws = u.draws) (h : impliedInstr sem s = .next t) : s.Accesses R W NoDraw t := by
  cases h
  exact ((((State.Accesses.start.charge impliedAdjust).charge nullReadCycles).cpu (hf _) fun _ => hd _).charge
    nullWriteCycles).advance 0

theorem nopAny_accesses (hR : o = .imp ∨ (∀ a, R a) ∨ ∃ b, o = .imm b) (h : nopAny o s = .next t) :
    s.Accesses R W NoDraw t := by
  by_cases ho : o = .imp
  · subst ho
    exact impliedInstr_accesses (sem := nopImplied) (fun _ => rfl) (fun _ => rfl) h
  · refine readInstr_accesses (sem := nopRead) (hR.resolve_left ho) (fun _ _ => rfl) (fun _ _ _ _ => rfl) ?_
    cases o with
    | imp => exact absurd rfl ho
    | _ => exact h

theorem branchInstr_accesses {c : Bool} {d : Byte} (h : branchInstr c d s = .next t) : s.Accesses R W NoDraw t := by
  unfold branchInstr at h
  split at h <;> cases h <;> exact (State.Accesses.start.charge _).setPc _

theorem jumpInstr_accesses {cycles : Nat} (hR : o.hasPointer = true → ∀ a, R a) (h : jumpInstr o cycles s = .next t) :
    s.Accesses R W NoDraw t := by
  obtain ⟨e, he, h⟩ := andThen_eq_next h
  cases h
  exact ((effective_accesses hR he).charge cycles).setPc _

theorem pushInstr_accesses {v : Byte} {cycles : Nat} (hW : stackAddr s.sp ∈ W) (h : pushInstr v cycles s = .next t) :
    s.Accesses R W NoDraw t := by
  obtain ⟨u, hu, h⟩ := andThen_eq_next h
  cases h
  exact ((State.Accesses.start.push hW hu).1.charge cycles).advance 0

theorem pullInstr_accesses {sem : State → Byte → State} {cycles : Nat} (hf : ∀ v u, State.CpuFrame u (sem u v))
    (hd : ∀ v u, (sem u v).draws = u.draws) (h : pullInstr sem cycles s = .next t) : s.Accesses R W NoDraw t := by
  rw [pullInstr, pull_eq] at h
  cases h
  exact (((State.Accesses.start.setSp (s.sp + 1)).cpu (hf _ _) fun _ => hd _ _).charge cycles).advance 0

theorem callInstr_accesses {w : Addr} (h0 : stackAddr s.sp ∈ W) (h1 : stackAddr (s.sp - 1) ∈ W)
    (h : callInstr w s = .next t) : s.Accesses R W NoDraw t := by
  obtain ⟨u, hu, h⟩ := andThen_eq_next h
  cases h
  exact ((State.Accesses.start.pushAddr h0 h1 hu).1.charge 6).setPc _

theorem returnInstr_accesses (h : returnInstr s = .next t) : s.Accesses R W NoDraw t := by
  rw [returnInstr, pullAddr_eq] at h
  cases h
  exact ((State.Accesses.start.setSp (s.sp + 1 + 1)).charge 6).setPc _

theorem takeTrap_accesses {ret vector : Addr} {cycles : Nat} (h0 : stackAddr s.sp ∈ W) (h1 : stackAddr (s.sp - 1) ∈ W)
    (h2 : stackAddr (s.sp - 2) ∈ W) (hlo : R vector) (hhi : R (vector + 1))
    (h : takeTrap ret vector cycles s = .next t) : s.Accesses R W NoDraw t := by
  obtain ⟨u, hu, h⟩ := andThen_eq_next h
  obtain ⟨w, hw, h⟩ := andThen_eq_next h
  obtain ⟨d, hd, h⟩ := andThen_eq_next h
  cases h
  obtain ⟨hu, hsp⟩ := State.Accesses.start (R := R) (NoDraw := NoDraw).pushAddr h0 h1 hu
  obtain ⟨hw, -⟩ := hu.push (hsp ▸ h2) hw
  exact (((hw.setFlags _).readPair hlo hhi hd).charge cycles).setPc _

theorem returnFromTrap_accesses {cycles : Nat} (h : returnFromTrap cycles s = .next t) : s.Accesses R W NoDraw t := by
  rw [returnFromTrap, pull_eq, andThen_next, pullAddr_eq] at h
  cases h
  exact ((((State.Accesses.start.setSp (s.sp + 1)).setFlags _).setSp (s.sp + 1 + 1 + 1)).charge cycles).setPc _

end

/-- R141 to R144: only a decimal ADC or SBC draws. -/
theorem cpuEffect_draws {m : Mnemonic} {o : Operand} (v : Byte) {u : State}
    (h : u.flags.d = false ∨ m ∉ [Mnemonic.adc, .sbc]) : (cpuEffect m o v u).draws = u.draws := by
  cases m
  case adc =>
    have hd := h.resolve_right (by decide)
    simp [cpuEffect, State.adc, hd]
  case sbc =>
    have hd := h.resolve_right (by decide)
    simp [cpuEffect, State.sbc, hd]
  all_goals rfl

/-- The effect of an instruction is the CPU's own work. -/
theorem cpuEffect_cpuFrame (m : Mnemonic) (o : Operand) (v : Byte) (u : State) : u.CpuFrame (cpuEffect m o v u) := by
  rw [State.CpuFrame, cpuEffect_frame]

/-- R59, R112: an operand in memory is a data access, but for the address that JMP and JSR carry. -/
theorem accessesData_of_isRead {i : Instr} (hj : i.mnemonic ≠ .jmp) (hs : i.mnemonic ≠ .jsr)
    (ho : i.operand.isRead = true) : accessesData i = true ∨ ∃ b, i.operand = .imm b := by
  unfold accessesData
  generalize i.operand = o at ho ⊢
  cases o with
  | imm b => exact .inr ⟨b, rfl⟩
  | abs w => exact .inl (by simp [hj, hs])
  | imp | acc | rel _ | ind _ => cases ho
  | _ => exact .inl rfl

theorem Operand.isRead_of_isStore {o : Operand} (ho : o.isStore = true) : o.isRead = true := by
  cases o with
  | imm _ | imp | acc | rel _ | ind _ => cases ho
  | _ => rfl

theorem accessesData_of_isStore {i : Instr} (hj : i.mnemonic ≠ .jmp) (hs : i.mnemonic ≠ .jsr)
    (ho : i.operand.isStore = true) : accessesData i = true := by
  refine (accessesData_of_isRead hj hs (Operand.isRead_of_isStore ho)).resolve_right ?_
  rintro ⟨b, hb⟩
  rw [hb] at ho
  cases ho

/-- A pointer in memory is a data access. -/
theorem accessesData_of_hasPointer {i : Instr} (ho : i.operand.hasPointer = true) : accessesData i = true := by
  unfold accessesData
  generalize i.operand = o at ho ⊢
  cases o with
  | ind w | izx z | izy z => rfl
  | _ => cases ho

/-- The mnemonics that store to their operand, in memory or in A (R111). -/
def storingMnemonics : List Mnemonic := [.sta, .stx, .sty, .sax, .asl, .lsr, .rol, .ror, .inc, .dec, .slo, .dcp]

/-- `storedAddrs` of a store-type or a memory RMW-type instruction. -/
theorem storedAddrs_of_effective {i : Instr} {s : State} (hm : i.mnemonic ∈ storingMnemonics) (ho : i.operand ≠ .acc)
    {e : Effective × State} (he : effective i.operand s = .next e) : e.1.addr ∈ storedAddrs i s := by
  unfold storedAddrs
  generalize i.mnemonic = m, i.operand = o at *
  split <;> simp_all [storingMnemonics]

/-- A storing mnemonic has an operand in memory or A. -/
theorem operand_isStore {i : Instr} (hm : i.mnemonic ∈ storingMnemonics) (ho : i.operand ≠ .acc) :
    i.operand.isStore = true := by
  have h := takes_operand i
  generalize i.mnemonic = m, i.operand = o at *
  cases m
  case sta | stx | sty | sax | inc | dec | slo | dcp => exact h
  case asl | lsr | rol | ror => simpa [takesOperand, ho] using h
  all_goals exact absurd hm (by decide)

/-- Where an instruction does not store to an operand in memory, it stores to the stack slots only. -/
theorem storedAddrs_subset_stack {i : Instr} (s : State) (h : i.mnemonic ∈ storingMnemonics → i.operand = .acc) :
    storedAddrs i s ⊆ [stackAddr s.sp, stackAddr (s.sp - 1), stackAddr (s.sp - 2)] := by
  unfold storedAddrs
  generalize i.mnemonic = m, i.operand = o at *
  split <;> simp_all [storingMnemonics]

/-- Storing to an operand in memory is a data access. -/
theorem accessesData_of_stores {i : Instr} (hm : i.mnemonic ∈ storingMnemonics) (ho : i.operand ≠ .acc) :
    accessesData i = true := by
  have hne : ∀ m ∉ storingMnemonics, i.mnemonic ≠ m := fun m hmm hj => hmm (hj ▸ hm)
  exact accessesData_of_isStore (hne _ (by decide)) (hne _ (by decide)) (operand_isStore hm ho)

/-- Where an instruction without a data access stores, it stores to RAM (R43). -/
theorem storedAddrs_ram {i : Instr} {s : State} (h : accessesData i = false) :
    ∀ b ∈ storedAddrs i s, ∃ k, route b = some (.ram k) := by
  have hs : i.mnemonic ∈ storingMnemonics → i.operand = .acc := fun hm => by
    by_contra ho
    rw [accessesData_of_stores hm ho] at h
    cases h
  intro b hb
  have hb := storedAddrs_subset_stack s hs hb
  simp only [List.mem_cons, List.not_mem_nil, or_false] at hb
  rcases hb with rfl | rfl | rfl <;> exact ⟨_, route_stackAddr _⟩

/-- Where an instruction may read besides its own bytes and the stack: BRK its vector, one with a data access anywhere. -/
def dataReads (i : Instr) (a : Addr) : Prop :=
  accessesData i = true ∨ i.mnemonic = .brk ∧ (a = brkVector ∨ a = brkVector + 1)

/-- R59, R112: the accesses of a completed instruction. -/
theorem exec_accesses {i : Instr} {s t : State} (h : exec i s = .next t) :
    s.Accesses (dataReads i) (storedAddrs i s) (s.flags.d = false ∨ i.mnemonic ∉ [Mnemonic.adc, .sbc]) t := by
  have hop := takes_operand i
  have hf := cpuEffect_cpuFrame i.mnemonic i.operand
  have hd : (s.flags.d = false ∨ i.mnemonic ∉ [Mnemonic.adc, .sbc]) → ∀ (v : Byte) (u : State), u.flags = s.flags →
      (cpuEffect i.mnemonic i.operand v u).draws = u.draws := fun hn v u hu => cpuEffect_draws v (by rwa [hu])
  have hread : i.mnemonic ≠ .jmp → i.mnemonic ≠ .jsr → i.operand.isRead = true →
      (∀ a, dataReads i a) ∨ ∃ b, i.operand = .imm b := fun hj hs ho =>
    (accessesData_of_isRead hj hs ho).imp_left fun hd _ => .inl hd
  have hpointer : i.operand.hasPointer = true → ∀ a, dataReads i a := fun ho _ => .inl (accessesData_of_hasPointer ho)
  have hstore : i.mnemonic ∈ storingMnemonics → i.operand = .acc ∨ ∀ a, dataReads i a := fun hm =>
    or_iff_not_imp_left.2 fun ho _ => .inl (accessesData_of_stores hm ho)
  have hwrite := fun hm ho e he => storedAddrs_of_effective (i := i) (s := s) (e := e) hm ho he
  rw [exec_eq] at h
  cases hm : i.mnemonic <;> rw [hm] at h hop hf hd hread hstore hwrite
  case adc | alr | and | bit | cmp | cpx | cpy | eor | lax | lda | ldx | ldy | ora | sbc | sbx =>
    exact readInstr_accesses (hread (by decide) (by decide) hop) hf hd h
  case asl | lsr | rol | ror | dec | inc | dcp | slo =>
    refine modifyAny_accesses (hstore (by decide)) (hwrite (by decide)) (fun _ _ => ?_) (fun _ _ => ?_) h <;> rfl
  case sta | stx | sty | sax =>
    have ho : i.operand ≠ .acc := by intro ho; rw [ho] at hop; cases hop
    exact storeInstr_accesses ((hstore (by decide)).resolve_left ho) (hwrite (by decide) ho) h
  case bcc | bcs | beq | bmi | bne | bpl | bvc | bvs => exact branchInstr_accesses h
  case jmp => exact jumpInstr_accesses hpointer h
  case nop =>
    have ho : i.operand = .imp ∨ i.operand.isRead = true := by simpa [takesOperand, or_comm] using hop
    exact nopAny_accesses (ho.imp_right (hread (by decide) (by decide))) h
  case pha | php =>
    have ho : i.operand = .imp := by simpa [takesOperand] using hop
    exact pushInstr_accesses (by simp [storedAddrs, hm, ho]) h
  case pla => refine pullInstr_accesses (sem := State.loadA) (fun _ _ => ?_) (fun _ _ => ?_) h <;> rfl
  case plp =>
    refine pullInstr_accesses (sem := fun t p => t.setFlags (pulledFlags p)) (fun _ _ => ?_) (fun _ _ => ?_) h <;> rfl
  case jsr =>
    have ho : i.operand = .abs i.operand.word := by simpa [takesOperand] using hop
    exact callInstr_accesses (by rw [storedAddrs, hm, ho]; simp) (by rw [storedAddrs, hm, ho]; simp) h
  case rts => exact returnInstr_accesses h
  case brk =>
    have ho : i.operand = .imp := by simpa [takesOperand] using hop
    exact takeTrap_accesses (by simp [storedAddrs, hm, ho]) (by simp [storedAddrs, hm, ho])
      (by simp [storedAddrs, hm, ho]) (.inr ⟨hm, .inl rfl⟩) (.inr ⟨hm, .inr rfl⟩) h
  case rti => exact returnFromTrap_accesses h
  all_goals exact impliedInstr_accesses (hf 0) (fun _ => rfl) h

/-- Without a data access only the cartridge is read. -/
theorem dataReads_cart {i : Instr} (h : accessesData i = false) {a : Addr} (ha : dataReads i a) :
    ∃ o, route a = some (.cart o) := by
  rcases ha with hd | ⟨-, rfl | rfl⟩
  · rw [h] at hd; cases hd
  · exact ⟨0xFFE, by decide⟩
  · exact ⟨0xFFF, by decide⟩

/-- Without a data access only BRK reads. -/
theorem not_dataReads {i : Instr} (h : accessesData i = false) (hb : i.mnemonic ≠ .brk) (a : Addr) : ¬dataReads i a := by
  simp [dataReads, h, hb]

end Sys2Proof.Machine

open Sys2Proof Sys2Proof.Machine

/-- Settles O47: the writes of an instruction are at `storedAddrs`, and no write reaches ROM. -/
theorem memoryFrame : Obligations.MemoryFrame := by
  unfold Obligations.MemoryFrame
  intro i s t h a
  obtain ⟨hp, -, -⟩ := exec_status h
  refine ⟨fun ha => State.peek_congr hp fun k hk => (exec_accesses h).read_mem fun b hb => hk ▸ ha b hb,
    fun o ho => State.peek_congr hp fun k hk => ?_⟩
  rw [storageKey_of_cart ho] at hk
  cases hk
  exact exec_rom h (route_range ho)

/-- Settles O48: each device changes only through the accesses that reach it. -/
theorem deviceFrame : Obligations.DeviceFrame := by
  unfold Obligations.DeviceFrame
  intro i s t h
  obtain ⟨hp, hq, hf⟩ := exec_status h
  have hx := exec_accesses h
  refine ⟨⟨hf, hp, hq⟩, ?_, fun hd => hx.devices (fun _ => dataReads_cart hd) (storedAddrs_ram hd), hx.sameRegs⟩
  rintro (hc | ⟨hd, hb⟩)
  · exact hx.cart_of_singleBank hc
  · exact hx.cart_of_ram (not_dataReads hd hb) (storedAddrs_ram hd)

end

section
/-! PROOF. Decoder and encoder (30_encoding.md). `Slot.Reads` is what a slot makes of its operand bytes: the decoder accepts
exactly what a slot of the table reads, and the encoder writes exactly that. The table's keys are the default `POPULATED`. -/

namespace Sys2Proof

open Machine

@[simp] theorem joinBytes_loByte_hiByte (w : Addr) : joinBytes (loByte w) (hiByte w) = w := by
  rw [joinBytes, loByte, hiByte, BitVec.extractLsb'_append_extractLsb'_eq_extractLsb' (by rfl)]
  exact BitVec.extractLsb'_eq_self

@[simp] theorem loByte_joinBytes (lo hi : Byte) : loByte (joinBytes lo hi) = lo := BitVec.extractLsb'_append_eq_right

@[simp] theorem hiByte_joinBytes (lo hi : Byte) : hiByte (joinBytes lo hi) = hi := BitVec.extractLsb'_append_eq_left

/-- R70, R73: the instruction a slot makes of exactly its operand bytes. -/
inductive Slot.Reads : Slot → List Byte → Instr → Prop
  | bare (i : Instr) : Slot.Reads (.bare i) [] i
  | byte (f : Byte → Instr) (b : Byte) : Slot.Reads (.byte f) [b] (f b)
  | word (f : Addr → Instr) (w : Addr) : Slot.Reads (.word f) [loByte w, hiByte w] (f w)

/-! The decoder, by the slot of the opcode byte. -/

/-- R70: an opcode byte with a slot and the operand bytes of the slot decode, whatever follows. -/
theorem decode_of_reads {op : Byte} {sl : Slot} {ops : List Byte} {i : Instr} (hs : slotOf op = some sl)
    (hr : sl.Reads ops i) (rest : List Byte) : decode (op :: ops ++ rest) = .ok (i, rest) := by
  cases hr <;> simp [decode, hs]

/-- R70: the decoder accepts only an opcode byte with a slot, followed by the operand bytes of the slot. -/
theorem reads_of_decode {bytes rest : List Byte} {i : Instr} (h : decode bytes = .ok (i, rest)) :
    ∃ op sl ops, slotOf op = some sl ∧ sl.Reads ops i ∧ bytes = op :: ops ++ rest := by
  unfold decode at h
  split at h
  · cases h
  next op tail =>
    split at h
    next hs => cases h
    next j hs =>
      cases h
      exact ⟨op, _, _, hs, .bare i, rfl⟩
    next f hs =>
      split at h <;> cases h
      next b1 => exact ⟨op, _, _, hs, .byte f b1, rfl⟩
    next f hs =>
      split at h <;> cases h
      next b1 b2 => exact ⟨op, _, _, hs, .word f (joinBytes b1 b2), by simp⟩

/-- R75: the decoder rejects an opcode byte as unpopulated, whatever follows, exactly if it has no slot. -/
theorem decode_unpopulated_iff {op : Byte} (rest : List Byte) :
    decode (op :: rest) = .error (.unpopulated op) ↔ slotOf op = none := by
  simp only [decode]
  split
  next hs => simp [hs]
  next hs => simp [hs]
  next hs => split <;> simp [hs]
  next hs => split <;> simp [hs]

/-! The dispatch table. -/

theorem lookupSlot_append {t u : List (Nat × Slot)} {n : Nat} :
    lookupSlot (t ++ u) n = (lookupSlot t n).or (lookupSlot u n) := by
  induction t with
  | nil => rfl
  | cons p t ih =>
    simp only [List.cons_append, lookupSlot, ih]
    split <;> rfl

theorem mem_of_lookupSlot {t : List (Nat × Slot)} {n : Nat} {sl : Slot} (h : lookupSlot t n = some sl) : (n, sl) ∈ t := by
  induction t with
  | nil => cases h
  | cons p t ih =>
    rw [lookupSlot] at h
    split at h
    next hk => cases h; cases hk; exact .head _
    next => exact .tail _ (ih h)

theorem lookupSlot_eq_none_iff {t : List (Nat × Slot)} {n : Nat} : lookupSlot t n = none ↔ n ∉ t.map Prod.fst := by
  induction t with
  | nil => simp [lookupSlot]
  | cons p t ih =>
    rw [lookupSlot]
    split
    next hk => simp [hk]
    next hk => simp [ih, Ne.symm hk]

/-- R76, R77: the table's keys are the default `POPULATED`. -/
theorem dispatchTable_keys : dispatchTable.map Prod.fst = launchParams.populated.map BitVec.toNat := by rfl

/-- R75, R76: the bytes without a slot are those outside the default `POPULATED`. -/
theorem slotOf_eq_none_iff {op : Byte} : slotOf op = none ↔ op ∉ launchParams.populated := by
  rw [slotOf, lookupSlot_eq_none_iff, dispatchTable_keys,
    List.mem_map_of_injective fun _ _ => BitVec.eq_of_toNat_eq]

/-- A list of bytes as the set of its elements: bit `b` is set iff `b` is listed. -/
def byteSet (l : List Byte) : BitVec 256 := l.foldr (fun b m => BitVec.twoPow 256 b.toNat ||| m) 0

theorem byteSet_append (l₁ l₂ : List Byte) : byteSet (l₁ ++ l₂) = byteSet l₁ ||| byteSet l₂ := by
  induction l₁ with
  | nil => exact (BitVec.zero_or ..).symm
  | cons b l₁ ih => exact (congrArg _ ih).trans (BitVec.or_assoc ..).symm

theorem getLsbD_byteSet {l : List Byte} {b : Byte} : (byteSet l).getLsbD b.toNat = true ↔ b ∈ l := by
  induction l with
  | nil => simp [byteSet]
  | cons c l ih =>
    have hc : c.toNat < 256 ∧ c.toNat = b.toNat ↔ b = c := by
      rw [and_iff_right c.isLt, BitVec.toNat_inj, eq_comm]
    rw [byteSet, List.foldr_cons, ← byteSet, BitVec.getLsbD_or, BitVec.getLsbD_twoPow, Bool.or_eq_true, ih]
    simp [hc]

/-- Two lists are together the complement of a third if their sets are. -/
theorem mem_or_mem_iff_of_byteSet {l₁ l₂ l : List Byte} (h : byteSet l₁ ||| byteSet l₂ = ~~~byteSet l) {b : Byte} :
    b ∈ l₁ ∨ b ∈ l₂ ↔ b ∉ l := by
  rw [← getLsbD_byteSet, ← getLsbD_byteSet, ← getLsbD_byteSet, ← Bool.or_eq_true, ← BitVec.getLsbD_or, h,
    BitVec.getLsbD_not]
  simp [b.isLt]

/-! The encoder against the table, in both directions. -/

/-- R71, R77: the bytes of an instruction are an opcode byte with a slot and what that slot reads as the instruction. The
lookup goes row by row; for each instruction it ends at one entry, whose shape names the rule of `Slot.Reads`. -/
theorem encode_reads (i : Instr) : ∃ op sl ops, encode i = op :: ops ∧ slotOf op = some sl ∧ sl.Reads ops i := by
  simp only [slotOf, dispatchTable, lookupSlot_append]
  cases i <;> exact ⟨_, _, _, rfl, rfl, by constructor⟩

/-- R77: an entry of the table reads its operand bytes as an instruction that is encoded as its key and those bytes. -/
theorem encode_of_mem_dispatchTable : ∀ p ∈ dispatchTable, ∀ ops i, p.2.Reads ops i →
    encode i = BitVec.ofNat 8 p.1 :: ops := by
  simp only [dispatchTable, List.forall_mem_append]
  simp only [matrixRow0, matrixRow1, matrixRow2, matrixRow3, matrixRow4, matrixRow5, matrixRow6, matrixRow7, matrixRow8,
    matrixRow9, matrixRowA, matrixRowB, matrixRowC, matrixRowD, matrixRowE, matrixRowF, List.forall_mem_cons,
    List.not_mem_nil, IsEmpty.forall_iff, implies_true, and_true]
  and_intros
  all_goals rintro _ _ ⟨⟩; rfl

theorem encode_of_reads {op : Byte} {sl : Slot} {ops : List Byte} {i : Instr} (hs : slotOf op = some sl)
    (hr : sl.Reads ops i) : encode i = op :: ops := by
  simpa using encode_of_mem_dispatchTable _ (mem_of_lookupSlot hs) ops i hr

theorem decode_encode (i : Instr) (rest : List Byte) : decode (encode i ++ rest) = .ok (i, rest) := by
  obtain ⟨op, sl, ops, he, hs, hr⟩ := encode_reads i
  rw [he, decode_of_reads hs hr]

/-- R77 to R79: an instruction of the matrix of operand bytes `b1` and `b2` is encoded as its opcode byte and the first of
these bytes, as many as its format has. -/
theorem encode_isPrefix_of_mem_opcodeMatrix (b1 b2 : Byte) : ∀ p ∈ opcodeMatrix b1 b2, encode p.2 <+: [p.1, b1, b2] := by
  obtain ⟨w, rfl, rfl⟩ : ∃ w, loByte w = b1 ∧ hiByte w = b2 := ⟨joinBytes b1 b2, by simp, by simp⟩
  have hw : hiByte w ++ loByte w = w := joinBytes_loByte_hiByte w
  simp only [opcodeMatrix, hw, List.forall_mem_flatten, List.forall_mem_cons]
  simp only [opcodeRow0, opcodeRow1, opcodeRow2, opcodeRow3, opcodeRow4, opcodeRow5, opcodeRow6, opcodeRow7, opcodeRow8,
    opcodeRow9, opcodeRowA, opcodeRowB, opcodeRowC, opcodeRowD, opcodeRowE, opcodeRowF, List.forall_mem_cons,
    List.not_mem_nil, IsEmpty.forall_iff, implies_true, and_true]
  and_intros
  all_goals exact ⟨_, rfl⟩

end Sys2Proof

namespace Sys2Proof.Machine

/-- R105: a step of a running machine is its fetch and the instruction. -/
theorem step_of_running {s : State} (h : s.Running) : step s = andThen (fetch s) fun f => exec f.1 f.2 := by
  obtain ⟨hf, he⟩ := h
  simp [step, boundary, hf, he]

/-- R75, R76: the fetch of a byte without a slot is fatal. -/
theorem fetch_of_slotOf_none {s t : State} {op : Byte} (hb : busRead s.pc s = .next (op, t)) (hs : s.slotOf op = none) :
    fetch s = .fault (.unimplementedOpcode op s.pc) := by
  simp only [fetch, hb, andThen_next, hs]

/-- R76: a `POPULATED` of the launch adds no slot. -/
theorem State.slotOf_eq_none {s : State} {op : Byte} (h : Sys2Proof.slotOf op = none) : s.slotOf op = none := by
  simp [State.slotOf, h]

end Sys2Proof.Machine

open Sys2Proof Sys2Proof.Machine

/-- Settles O2: the encoder writes what a slot of the table reads, and the decoder accepts that. -/
theorem decodeInvertsEncode : Obligations.DecodeInvertsEncode := by
  unfold Obligations.DecodeInvertsEncode
  exact decode_encode

/-- Settles O3: what the decoder accepts is what a slot reads, and the encoder writes that. -/
theorem encodeInvertsDecode : Obligations.EncodeInvertsDecode := by
  unfold Obligations.EncodeInvertsDecode
  intro bytes rest i h
  obtain ⟨op, sl, ops, hs, hr, rfl⟩ := reads_of_decode h
  rw [encode_of_reads hs hr]

/-- Settles O4: rejected as unpopulated, without a slot and outside the default `POPULATED` are one and the same. -/
theorem unpopulatedOpcodeIsFatal : Obligations.UnpopulatedOpcodeIsFatal := by
  unfold Obligations.UnpopulatedOpcodeIsFatal
  intro op
  simp only [decode_unpopulated_iff, slotOf_eq_none_iff, forall_const]
  refine ⟨⟨mem_or_mem_iff_of_byteSet ?_, trivial⟩, fun s t hr hb h => ?_⟩
  · simp only [launchParams, populatedBytes, byteSet_append]
    decide
  · rw [step_of_running hr, fetch_of_slotOf_none hb (State.slotOf_eq_none (slotOf_eq_none_iff.mpr h)), andThen_fault]

/-- Settles O1: each word is the encoding of its instruction. -/
theorem specWordsDecode : Obligations.SpecWordsDecode := by
  unfold Obligations.SpecWordsDecode
  exact ⟨decode_encode (.ldaImm 0x10) [], decode_encode (.staAbs 0x1234) [], decode_encode (.ldaZp 0x80) [],
    decode_encode (.stxZpy 0x80) [], decode_encode (.adcIzx 0x80) [], decode_encode (.sbcIzy 0x80) [],
    decode_encode (.rorAbx 0xF100) [], decode_encode .aslAcc [], decode_encode (.bneRel 0xFB) [],
    decode_encode (.jmpInd 0x00F0) [], decode_encode .brk [0xEA], decode_encode .plp [], decode_encode (.dcpAby 0xF1F0) [],
    decode_encode (.nopZpx14 0x7F) [], decode_encode (.aslZpx 0x7F) []⟩

/-- Settles O60: the bytes of each row begin with the encoding of its instruction. -/
theorem opcodeMatrixDecodes : Obligations.OpcodeMatrixDecodes := by
  unfold Obligations.OpcodeMatrixDecodes
  intro b1 b2 op i h
  obtain ⟨left, hl⟩ := encode_isPrefix_of_mem_opcodeMatrix b1 b2 _ h
  exact ⟨left, hl ▸ decode_encode i left⟩

end

section
/-! PROOF. Addressing and execution (40_addressing_and_execution.md): the effective addresses in plain arithmetic, the fetch
of instruction bytes from storage, and how an instruction ends at an access that a collaborator refuses. -/

namespace Sys2Proof

/-- R70: a slot reads as many bytes as its format has. -/
theorem Slot.Reads.length {sl : Slot} {ops : List Byte} {i : Instr} (h : sl.Reads ops i) : ops.length = sl.size := by
  cases h <;> rfl

end Sys2Proof

namespace Sys2Proof.Machine

/-! The addressing unit in plain arithmetic (R91 to R101). -/

/-- R92: a zero-page address. -/
theorem zeroPage_eq_ofNat (z : Byte) : zeroPage z = BitVec.ofNat 16 z.toNat := (BitVec.ofNat_toNat 16 z).symm

/-- R93, R94: indexing wraps inside the zero page. -/
theorem zeroPage_add (z b : Byte) : zeroPage (z + b) = BitVec.ofNat 16 ((z.toNat + b.toNat) % 0x100) := by
  rw [zeroPage_eq_ofNat, BitVec.toNat_add]

/-- R100: so does the successor of a pointer. -/
theorem zeroPage_add_one (z : Byte) : zeroPage (z + 1) = BitVec.ofNat 16 ((z.toNat + 1) % 0x100) := zeroPage_add z 1

/-- R99: and that of an indexed pointer. -/
theorem zeroPage_add_add_one (z b : Byte) :
    zeroPage (z + b + 1) = BitVec.ofNat 16 ((z.toNat + b.toNat + 1) % 0x100) := by
  rw [zeroPage_add_one, BitVec.toNat_add, Nat.mod_add_mod]

/-- R91: the next address modulo 65536. -/
theorem addr_add_one_eq_ofNat (a : Addr) : a + 1 = BitVec.ofNat 16 (a.toNat + 1) := by
  apply BitVec.eq_of_toNat_eq
  simp

theorem toNat_hiByte (a : Addr) : (hiByte a).toNat = a.toNat / 0x100 := by
  have ha := a.isLt
  rw [hiByte, BitVec.extractLsb'_toNat, Nat.shiftRight_eq_div_pow]
  omega

theorem toNat_loByte (a : Addr) : (loByte a).toNat = a.toNat % 0x100 := by
  rw [loByte, BitVec.extractLsb'_toNat, Nat.shiftRight_zero]

/-- R57: the value of a low and a high byte. -/
theorem toNat_joinBytes (lo hi : Byte) : (joinBytes lo hi).toNat = 256 * hi.toNat + lo.toNat := by
  rw [joinBytes, BitVec.toNat_append, Nat.shiftLeft_eq, Nat.mul_comm, ← Nat.two_pow_add_eq_or_of_lt lo.isLt]

theorem joinBytes_eq_ofNat (lo hi : Byte) : joinBytes lo hi = BitVec.ofNat 16 (256 * hi.toNat + lo.toNat) := by
  rw [← toNat_joinBytes, BitVec.ofNat_toNat, BitVec.setWidth_eq]

/-- R96 to R98: indexing modulo 65536; the page is crossed exactly if the low bytes carry. -/
theorem indexed_eq (w : Addr) (b : Byte) :
    indexed w b = ⟨BitVec.ofNat 16 (w.toNat + b.toNat), decide (0x100 ≤ w.toNat % 0x100 + b.toNat)⟩ := by
  have hsum : w + b.setWidth 16 = BitVec.ofNat 16 (w.toNat + b.toNat) := by
    apply BitVec.eq_of_toNat_eq
    simp
  have hcross : hiByte w ≠ hiByte (BitVec.ofNat 16 (w.toNat + b.toNat)) ↔ 0x100 ≤ w.toNat % 0x100 + b.toNat := by
    have hb := b.isLt
    have hw := w.isLt
    rw [Ne, ← BitVec.toNat_inj, toNat_hiByte, toNat_hiByte, BitVec.toNat_ofNat]
    omega
  rw [indexed, hsum, Effective.mk.injEq]
  refine ⟨rfl, ?_⟩
  rw [Bool.eq_iff_iff, bne_iff_ne, decide_eq_true_eq, hcross]

/-- R98, R100: indexing an address read from memory; the page is crossed exactly if its low byte carries. -/
theorem indexed_joinBytes (lo hi b : Byte) : indexed (joinBytes lo hi) b =
    ⟨BitVec.ofNat 16 (256 * hi.toNat + lo.toNat + b.toNat), decide (0x100 ≤ lo.toNat + b.toNat)⟩ := by
  rw [indexed_eq, toNat_joinBytes, Nat.mul_add_mod, Nat.mod_eq_of_lt lo.isLt]

/-- R101: with the page wrap the high byte of a JMP (ind) target comes from the pointer's own page. -/
theorem indirectHighAddr_wrap (ptr : Addr) :
    indirectHighAddr true ptr = BitVec.ofNat 16 (ptr.toNat / 0x100 * 0x100 + (ptr.toNat + 1) % 0x100) := by
  rw [indirectHighAddr, if_pos rfl, joinBytes_eq_ofNat, BitVec.toNat_add, toNat_hiByte, toNat_loByte, Nat.mul_comm,
    Nat.mod_add_mod]
  rfl

/-- R101: without it, from the next address. -/
theorem indirectHighAddr_noWrap (ptr : Addr) : indirectHighAddr false ptr = BitVec.ofNat 16 (ptr.toNat + 1) :=
  addr_add_one_eq_ofNat ptr

section
variable {s t u : State} {lo hi p : Byte} {ptr : Addr}

/-- R99, R100: a zero-page pointer from what its two reads give. -/
theorem zeroPagePointer_of_reads (hlo : busRead (zeroPage p) s = .next (lo, t))
    (hhi : busRead (zeroPage (p + 1)) t = .next (hi, u)) : zeroPagePointer p s = .next (joinBytes lo hi, u) := by
  simp only [zeroPagePointer, hlo, hhi, andThen_next]

/-- R101: the target of JMP (ind) from what its two reads give. -/
theorem effective_ind_of_reads (hlo : busRead ptr s = .next (lo, t))
    (hhi : busRead (indirectHighAddr s.params.jmpIndPageWrap ptr) t = .next (hi, u)) :
    effective (.ind ptr) s = .next (⟨BitVec.ofNat 16 (256 * hi.toNat + lo.toNat), false⟩, u) := by
  simp only [effective, indirectTarget, hlo, hhi, andThen_next, joinBytes_eq_ofNat, plainEffective]

end

/-! The fetch of bytes that lie in storage (R105). -/

/-- The bytes lie in storage, from the address on in ascending order (R57). -/
def State.Holds (s : State) (addr : Addr) (bytes : List Byte) : Prop :=
  ∀ k, k < bytes.length → s.peek (addr + BitVec.ofNat 16 k) = bytes[k]?

section
variable {s : State} {addr : Addr} {b : Byte} {bytes : List Byte}

theorem State.Holds.head (h : s.Holds addr (b :: bytes)) : s.peek addr = some b := by
  simpa using h 0 (Nat.succ_pos _)

theorem State.Holds.tail (h : s.Holds addr (b :: bytes)) : s.Holds (addr + 1) bytes := fun k hk => by
  have hk := h (k + 1) (Nat.succ_lt_succ hk)
  rwa [Nat.add_comm k 1, BitVec.ofNat_add, ← BitVec.add_assoc, Nat.add_comm 1 k] at hk

/-- R42, R57: bytes in storage are read as they lie there, and reading them changes nothing. -/
theorem readBytes_of_holds (h : s.Holds addr bytes) : readBytes bytes.length addr s = .next (bytes, s) := by
  induction bytes generalizing addr with
  | nil => rfl
  | cons b bytes ih => simp only [List.length_cons, readBytes, busRead_storage h.head, andThen_next, ih h.tail]

/-- R105, R64, R76: the fetch finds the instruction that the bytes at `PC` decode to, if its opcode is in `POPULATED`. -/
theorem fetch_of_holds {i : Instr} (hd : decode bytes = .ok (i, []))
    (hp : ∀ op, bytes[0]? = some op → op ∈ s.params.populated) (h : s.Holds s.pc bytes) : fetch s = .next (i, s) := by
  obtain ⟨op, sl, ops, hs, hr, rfl⟩ := reads_of_decode hd
  rw [List.append_nil] at hd hp h
  have hsl : s.slotOf op = some sl := (if_pos (hp op rfl)).trans hs
  simp only [fetch, busRead_storage h.head, andThen_next, hsl, ← hr.length, readBytes_of_holds h.tail, hd]

end

/-! How an instruction ends at an access that a collaborator refuses (R48, R322). -/

section
variable {o : Operand} {s u : State} {f : Fault} {e : Effective}

theorem readInstr_of_effective_fault {sem : State → Byte → State} (h : effective o s = .fault f) :
    readInstr o sem s = .fault f := by
  simp only [readInstr, operandByte, h, andThen_fault]

theorem storeInstr_of_effective_fault {value : State → Byte} (h : effective o s = .fault f) :
    storeInstr o value s = .fault f := by
  simp only [storeInstr, storeTarget, h, andThen_fault]

theorem modifyInstr_of_effective_fault {sem : Modify} (h : effective o s = .fault f) : modifyInstr o sem s = .fault f := by
  simp only [modifyInstr, modifyTarget, h, andThen_fault]

theorem jumpInstr_of_effective_fault {cycles : Nat} (h : effective o s = .fault f) : jumpInstr o cycles s = .fault f := by
  simp only [jumpInstr, h, andThen_fault]

/-- R109, R112: a read-type instruction reads 2 cycles before its end. -/
theorem addrCycles_add_penalty (ho : o.isStore = true) (he : effective o s = .next (e, u)) :
    o.addrCycles + e.penalty = readCycles o e.crossed - 2 := by
  have h := readCycles_eq (Operand.isRead_of_isStore ho) e.crossed (effective_not_crossed he)
  simp only [busReadCycles, nullWriteCycles] at h
  simp only [Effective.penalty]
  omega

/-- R109, R112: a memory RMW-type instruction reads 4 cycles before its end. -/
theorem addrCycles_add_storeAdjust (ho : o.isStore = true) : o.addrCycles + o.storeAdjust = modifyCycles o - 4 := by
  have h := modifyCycles_eq ho
  simp only [busReadCycles, busWriteCycles] at h
  omega

theorem readOperand_of_isStore (ho : o.isStore = true) (ea : Addr) (s : State) : readOperand o ea s = busRead ea s := by
  cases o with
  | imm b => cases ho
  | _ => rfl

/-- R105: a read-type instruction whose data read is refused ends there. -/
theorem readInstr_of_busRead_fault {sem : State → Byte → State} (ho : o.isStore = true)
    (he : effective o s = .next (e, u))
    (h : busRead e.addr { u with clock := s.clockAfter (readCycles o e.crossed - 2) } = .fault f) :
    readInstr o sem s = .fault f := by
  simp only [readInstr, operandByte, he, andThen_next, readOperand_of_isStore ho, (effective_frame he).charge_eq,
    addrCycles_add_penalty ho he, h, andThen_fault]

/-- R105: a memory RMW-type instruction whose data read is refused ends there. -/
theorem modifyInstr_of_busRead_fault {sem : Modify} (ho : o.isStore = true) (he : effective o s = .next (e, u))
    (h : busRead e.addr { u with clock := s.clockAfter (modifyCycles o - 4) } = .fault f) :
    modifyInstr o sem s = .fault f := by
  simp only [modifyInstr, modifyTarget, he, andThen_next, (effective_frame he).charge_eq, addrCycles_add_storeAdjust ho, h,
    andThen_fault]

/-- R112: the data read of a memory operand gives what `State.ReadsOperand` says. -/
theorem State.readsOperand_of_busRead {w : State} {v : Byte} (ho : o.isStore = true) (he : effective o s = .next (e, u))
    (h : busRead e.addr { u with clock := s.clockAfter (readCycles o e.crossed - 2) } = .next (v, w)) :
    s.ReadsOperand o v { w with clock := s.clockAfter (readCycles o e.crossed) } := by
  cases o with
  | imm b => cases ho
  | _ => exact ⟨e, u, w, he, h, rfl⟩

end

section
variable {i : Instr} {s : State} {f : Fault}

/-- R90, R322: an instruction whose pointer read is refused ends by that fault. -/
theorem exec_of_effective_fault (h : effective i.operand s = .fault f) : exec i s = .fault f := by
  have ht := takes_operand i
  rw [exec_eq]
  generalize i.mnemonic = m, i.operand = o at h ht ⊢
  cases m
  case adc | alr | and | bit | cmp | cpx | cpy | eor | lax | lda | ldx | ldy | ora | sbc | sbx =>
    exact readInstr_of_effective_fault h
  case sta | stx | sty | sax => exact storeInstr_of_effective_fault h
  case jmp => exact jumpInstr_of_effective_fault h
  case asl | lsr | rol | ror | dec | inc | dcp | slo =>
    cases o with
    | acc => cases h
    | _ => exact modifyInstr_of_effective_fault h
  case nop =>
    cases o with
    | imp => cases h
    | _ => exact readInstr_of_effective_fault h
  all_goals
    rw [eq_of_beq ht] at h
    cases h

/-- The mnemonics that read an operand in memory and do not write it (R111). -/
def readingMnemonics : List Mnemonic :=
  [.adc, .and, .bit, .cmp, .cpx, .cpy, .eor, .lax, .lda, .ldx, .ldy, .nop, .ora, .sbc]

/-- The mnemonics that read and write an operand in memory (R111). -/
def modifyingMnemonics : List Mnemonic := [.asl, .lsr, .rol, .ror, .inc, .dec, .slo, .dcp]

/-- R59, R112: a data access that is no jump is one to an operand in memory. -/
theorem operand_isStore_of_accessesData (hd : accessesData i = true) (hj : i.mnemonic ≠ .jmp) :
    i.operand.isStore = true := by
  have ht := takes_operand i
  unfold accessesData at hd
  generalize i.mnemonic = m, i.operand = o at *
  cases o with
  | imp | acc | imm _ | rel _ => cases hd
  | ind w =>
    cases m
    case jmp => exact absurd rfl hj
    all_goals cases ht
  | _ => rfl

/-- R111: a reading mnemonic with an operand in memory is a read-type instruction. -/
theorem exec_eq_readInstr (hm : i.mnemonic ∈ readingMnemonics) (ho : i.operand.isStore = true) :
    ∃ sem, ∀ s, exec i s = readInstr i.operand sem s := by
  simp only [exec_eq]
  generalize i.mnemonic = m, i.operand = o at *
  cases m
  case adc | and | bit | cmp | cpx | cpy | eor | lax | lda | ldx | ldy | ora | sbc => exact ⟨_, fun _ => rfl⟩
  case nop =>
    cases o with
    | imp => cases ho
    | _ => exact ⟨_, fun _ => rfl⟩
  all_goals exact absurd hm (by decide)

/-- R111: a modifying mnemonic with an operand in memory is a memory RMW-type instruction. -/
theorem exec_eq_modifyInstr (hm : i.mnemonic ∈ modifyingMnemonics) (ho : i.operand.isStore = true) :
    ∃ sem, ∀ s, exec i s = modifyInstr i.operand sem s := by
  simp only [exec_eq]
  generalize i.mnemonic = m, i.operand = o at *
  cases m
  case asl | lsr | rol | ror | dec | inc | dcp | slo =>
    cases o with
    | acc => cases ho
    | _ => exact ⟨_, fun _ => rfl⟩
  all_goals exact absurd hm (by decide)

end

end Sys2Proof.Machine

open Sys2Proof Sys2Proof.Machine

/-- Settles O19: no mode without a pointer reads the bus, and the additions are those of the plain arithmetic. -/
theorem effectiveAddresses : Obligations.EffectiveAddresses := by
  unfold Obligations.EffectiveAddresses
  intro s z w
  simp only [effective, plainEffective, zeroPage_add, indexed_eq, addr_add_one_eq_ofNat]
  simp only [zeroPage_eq_ofNat, and_self]

/-- Settles O20: the two reads are those of the pointer, and what they give is its value. -/
theorem pointerModes : Obligations.PointerModes := by
  unfold Obligations.PointerModes
  rintro s t u z lo hi ptr _ rfl
  refine ⟨fun hlo hhi => ?_, fun hlo hhi => ?_, fun hw hlo hhi => ?_, fun hw hlo hhi => ?_⟩
  · rw [← zeroPage_add] at hlo
    rw [← zeroPage_add_add_one] at hhi
    rw [effective, zeroPagePointer_of_reads hlo hhi, andThen_next, joinBytes_eq_ofNat]
    rfl
  · rw [← zeroPage_eq_ofNat] at hlo
    rw [← zeroPage_add_one] at hhi
    rw [effective, zeroPagePointer_of_reads hlo hhi, andThen_next, indexed_joinBytes]
  · rw [← indirectHighAddr_wrap, ← hw] at hhi
    exact effective_ind_of_reads hlo hhi
  · rw [← indirectHighAddr_noWrap, ← hw] at hhi
    exact effective_ind_of_reads hlo hhi

/-- Settles O5: the boundary lets a running machine pass, and bytes in storage are fetched without a change. -/
theorem stepRunsDecodedInstruction : Obligations.StepRunsDecodedInstruction := by
  unfold Obligations.StepRunsDecodedInstruction
  refine ⟨fun s i bytes hr hd hp h => ?_, fun s t i hr h => ?_, fun s f hr h => ?_, fun s t op hr hb h => ?_⟩
  · rw [step_of_running hr, fetch_of_holds hd hp h, andThen_next]
  · rw [step_of_running hr, h, andThen_next]
  · rw [step_of_running hr, h, andThen_fault]
  · rw [step_of_running hr, fetch_of_slotOf_none hb (if_neg h), andThen_fault]

/-- Settles O21: what each access answers is named by the three relations, and a refused one ends the instruction. -/
theorem operandAccessesAnswer : Obligations.OperandAccessesAnswer := by
  unfold Obligations.OperandAccessesAnswer
  intro s o
  refine ⟨fun hd => ⟨State.readsOperand_answers hd o, State.storesTo_answers hd o, State.readsTarget_answers hd o⟩,
    fun _ _ h => h.frame, fun _ _ h => h.frame, fun _ _ _ h => h.frame, ?_⟩
  rintro i rfl hd
  refine ⟨?_, fun hm e u he => ?_, fun hm e u he => ?_⟩
  · rcases effective_cases i.operand s with ⟨e, u, he, _⟩ | ⟨a, he, ha⟩
    · rw [he]
      trivial
    · rw [he]
      exact ⟨exec_of_effective_fault he, a, rfl, ha⟩
  · have ho := operand_isStore_of_accessesData hd (ne_of_mem_of_not_mem hm (by decide))
    rcases busRead_cases e.addr { u with clock := s.clockAfter (readCycles i.operand e.crossed - 2) } with
      ⟨v, w, h, _⟩ | ⟨h, ha⟩
    · rw [h]
      exact State.readsOperand_of_busRead ho he h
    · obtain ⟨sem, hx⟩ := exec_eq_readInstr hm ho
      rw [h, hx]
      exact ⟨readInstr_of_busRead_fault ho he h, rfl, State.mayRefuse_congr (effective_frame he).params _ ▸ ha⟩
  · have ho := operand_isStore_of_accessesData hd (ne_of_mem_of_not_mem hm (by decide))
    rcases busRead_cases e.addr { u with clock := s.clockAfter (modifyCycles i.operand - 4) } with ⟨v, w, h, _⟩ | ⟨h, ha⟩
    · rw [h]
      exact ⟨e, u, w, he, rfl, h, rfl⟩
    · obtain ⟨sem, hx⟩ := exec_eq_modifyInstr hm ho
      rw [h, hx]
      exact ⟨modifyInstr_of_busRead_fault ho he h, rfl, State.mayRefuse_congr (effective_frame he).params _ ▸ ha⟩

end

section
/-! PROOF. Load, store and register-transfer instructions (41_load_store_transfer.md). Each shared operation once more with
`PC` as `nextPc` (R106) and its flags as `nzFlags` (R19), the terms of the statements; the statements follow from these. -/

namespace Sys2Proof.Machine

/-- R19: N is bit 7 of the byte, Z whether it is 0. -/
theorem Flags.setNZ_eq_nzFlags (f : Flags) (v : Byte) : f.setNZ v = nzFlags f v := by
  have hn : bitOf v 7 = decide (128 ≤ v.toNat) := v.msb_eq_getLsbD_last.symm.trans v.msb_eq_decide
  have hz : (v == 0) = decide (v.toNat = 0) := by
    rw [Bool.eq_iff_iff, beq_iff_eq, decide_eq_true_eq, ← BitVec.toNat_inj]
    rfl
  rw [Flags.setNZ, nzFlags, hn, hz]

theorem State.loadA_eq (s : State) (v : Byte) : s.loadA v = { s with a := v, flags := nzFlags s.flags v } := by
  rw [← Flags.setNZ_eq_nzFlags]
  rfl

theorem State.loadX_eq (s : State) (v : Byte) : s.loadX v = { s with x := v, flags := nzFlags s.flags v } := by
  rw [← Flags.setNZ_eq_nzFlags]
  rfl

theorem State.loadY_eq (s : State) (v : Byte) : s.loadY v = { s with y := v, flags := nzFlags s.flags v } := by
  rw [← Flags.setNZ_eq_nzFlags]
  rfl

/-- R222: what LAX does with its byte. -/
theorem laxEffect_eq (s : State) (v : Byte) :
    laxEffect s v = { s with a := v, x := v, flags := nzFlags s.flags v } := State.loadX_eq _ v

section
variable {s t u : State} {o : Operand}

theorem State.ReadFrame.pc (h : s.ReadFrame t) : t.pc = s.pc := by
  unfold State.ReadFrame at h
  rw [h]

theorem State.ReadFrame.flags (h : s.ReadFrame t) : t.flags = s.flags := by
  unfold State.ReadFrame at h
  rw [h]

theorem State.ReadFrame.params (h : s.ReadFrame t) : t.params = s.params := by
  unfold State.ReadFrame at h
  rw [h]

/-- R106: advancing a state that is still at the instruction of `s` goes to the instruction after it. -/
theorem State.advance_eq_nextPc (h : t.pc = s.pc) (o : Operand) : t.advance o.size = { t with pc := nextPc s o } := by
  have hpc : t.pc + 1 + BitVec.ofNat 16 o.size = nextPc s o := by
    rw [h, addr_add_one_eq_ofNat, ← BitVec.ofNat_add]
    rfl
  rw [State.advance, hpc]
  rfl

/-- A read-type instruction completes with what its semantics makes of the operand byte, `PC` past the instruction. -/
theorem readInstr_nextPc (ho : o.isRead = true) {sem : State → Byte → State} {v : Byte} (h : s.ReadsOperand o v t)
    (hsem : sem t v = u) (hpc : u.pc = t.pc) : readInstr o sem s = .next { u with pc := nextPc s o } := by
  rw [readInstr_reads ho sem h, hsem, State.advance_eq_nextPc (hpc.trans h.frame.pc)]

/-- An implied instruction completes 2 cycles on with what its semantics makes of the state, `PC` one further. -/
theorem impliedInstr_nextPc (sem : State → State) (hsem : sem { s with clock := s.clockAfter 2 } = u) (hpc : u.pc = s.pc) :
    impliedInstr sem s = .next { u with pc := BitVec.ofNat 16 (s.pc.toNat + 1) } := by
  rw [impliedInstr_eq, hsem]
  exact congrArg Host.Outcome.next (State.advance_eq_nextPc hpc .imp)

/-- A write leaves `PC`, so the instruction that ends with it goes to the one after it. -/
theorem busWrite_advance_nextPc (h : t.pc = s.pc) (o : Operand) (a : Addr) (r : Byte) :
    (andThen (busWrite a r t) fun u => .next (u.advance o.size)) =
      andThen (busWrite a r t) fun u => .next { u with pc := nextPc s o } := by
  cases hw : busWrite a r t with
  | next u =>
    have hu : u.pc = t.pc := by rw [(busWrite_frame hw).1]
    rw [andThen_next, andThen_next, State.advance_eq_nextPc (hu.trans h)]
  | fault f => rfl
  | refused x => rfl

/-- A store-type instruction is its write, with `PC` past the instruction where that answers. -/
theorem storeInstr_nextPc (ho : o.isStore = true) (value : State → Byte) {a : Addr} (h : s.StoresTo o a t) :
    storeInstr o value s = andThen (busWrite a (value s) t) fun u => .next { u with pc := nextPc s o } := by
  rw [storeInstr_stores ho value h, busWrite_advance_nextPc h.frame.pc]

end

/-- R124 to R126, R225: STA, STX, STY and SAX are store-type instructions of A, X, Y, and A AND X. -/
theorem exec_eq_storeInstr {i : Instr} {s : State} {r : Byte}
    (h : (i.mnemonic, r) ∈ [(Mnemonic.sta, s.a), (.stx, s.x), (.sty, s.y), (.sax, s.a &&& s.x)]) :
    i.operand.isStore = true ∧ ∃ value, value s = r ∧ exec i s = storeInstr i.operand value s := by
  have ht := takes_operand i
  rw [exec_eq]
  simp only [List.mem_cons, List.not_mem_nil, Prod.mk.injEq, or_false] at h
  rcases h with ⟨hm, rfl⟩ | ⟨hm, rfl⟩ | ⟨hm, rfl⟩ | ⟨hm, rfl⟩ <;> rw [hm] at ht ⊢
  · exact ⟨ht, State.a, rfl, rfl⟩
  · exact ⟨ht, State.x, rfl, rfl⟩
  · exact ⟨ht, State.y, rfl, rfl⟩
  · exact ⟨ht, saxEffect, rfl, rfl⟩

end Sys2Proof.Machine

open Sys2Proof Sys2Proof.Machine

/-- Settles O22: each load is a read-type instruction, whose effect on the state of the read is one of the `load` lemmas. -/
theorem loadResults : Obligations.LoadResults := by
  unfold Obligations.LoadResults
  intro i s
  refine ⟨fun hd => State.readsOperand_answers hd i.operand, fun v t h => ?_⟩
  have ht := takes_operand i
  rw [exec_eq, ← h.frame.flags]
  refine ⟨fun hm => ?_, fun hm => ?_, fun hm => ?_, fun hm => ?_⟩ <;> rw [hm] at ht ⊢
  · exact readInstr_nextPc ht h (State.loadA_eq t v) rfl
  · exact readInstr_nextPc ht h (State.loadX_eq t v) rfl
  · exact readInstr_nextPc ht h (State.loadY_eq t v) rfl
  · exact readInstr_nextPc ht h (laxEffect_eq t v) rfl

/-- Settles O35: a store is its write, which answers unless the spec or a collaborator refuses it. -/
theorem storeResults : Obligations.StoreResults := by
  unfold Obligations.StoreResults
  intro i s t a r hm h
  obtain ⟨ho, value, rfl, hx⟩ := exec_eq_storeInstr hm
  rw [hx, storeInstr_nextPc ho value h]
  refine ⟨fun hr hc => ?_, ?_⟩
  · obtain ⟨u, hu⟩ := busWrite_answers hr ((State.mayRefuse_congr h.frame.params a).trans hc)
    exact ⟨u, hu, by rw [hu, andThen_next]⟩
  · cases busWrite a (value s) t <;> rfl

/-- Settles O31: each transfer is an implied instruction, whose effect is a `load` of the source register, or for TXS its
copy alone. -/
theorem transferResults : Obligations.TransferResults := by
  unfold Obligations.TransferResults
  rintro s r rfl
  refine ⟨rfl, ?_, rfl, ?_, rfl, ?_, rfl, ?_, rfl, ?_, rfl, ?_⟩ <;> rw [exec_eq]
  · exact impliedInstr_nextPc taxEffect (State.loadX_eq _ s.a) rfl
  · exact impliedInstr_nextPc tayEffect (State.loadY_eq _ s.a) rfl
  · exact impliedInstr_nextPc txaEffect (State.loadA_eq _ s.x) rfl
  · exact impliedInstr_nextPc tyaEffect (State.loadA_eq _ s.y) rfl
  · exact impliedInstr_nextPc tsxEffect (State.loadX_eq _ s.sp) rfl
  · exact impliedInstr_nextPc txsEffect rfl rfl

end

section
/-! PROOF. Arithmetic and logic instructions (42_arithmetic_logic.md). What each effect makes of the registers and flags in
plain arithmetic; the statements follow from these by the read-type, RMW-type and implied operations (R105, R111). -/

namespace Sys2Proof.Machine

/-! Bytes and carries as numbers. -/

theorem bitOf_seven (v : Byte) : bitOf v 7 = decide (128 ≤ v.toNat) := v.msb_eq_getLsbD_last.symm.trans v.msb_eq_decide

theorem bitOf_six (v : Byte) : bitOf v 6 = decide (64 ≤ v.toNat % 128) := by
  rw [bitOf, BitVec.getLsbD, Nat.testBit_eq_decide_div_mod_eq, decide_eq_decide]
  omega

theorem bitOf_zero (v : Byte) : bitOf v 0 = decide (v.toNat % 2 = 1) := by
  rw [bitOf, BitVec.getLsbD, Nat.testBit_zero]

theorem carryNat_eq_toNat (c : Bool) : carryNat c = c.toNat := by cases c <;> rfl

/-- `SetNZ` of a sum modulo 256 (R19). -/
theorem nzFlags_ofNat (f : Flags) (n : Nat) :
    nzFlags f (BitVec.ofNat 8 n) = { f with n := decide (128 ≤ n % 256), z := decide (n % 256 = 0) } := rfl

theorem toNat_ofInt (k : Int) : ((BitVec.ofInt 8 k : Byte).toNat : Int) = k % 256 := by
  rw [BitVec.toNat_ofInt]
  omega

theorem toNat_ofInt_add {n : Nat} (h : n < 256) (k : Int) : (BitVec.ofInt 8 (k * 256 + n)).toNat = n := by
  have := toNat_ofInt (k * 256 + n)
  omega

/-- `SetNZ` of a difference modulo 256 (R19). -/
theorem nzFlags_ofInt (f : Flags) (k : Int) :
    nzFlags f (BitVec.ofInt 8 k) = { f with n := decide (128 ≤ k % 256), z := decide (k % 256 = 0) } := by
  rw [nzFlags, ← toNat_ofInt]
  congr 1 <;> exact decide_eq_decide.2 (by omega)

theorem beq_zero_eq (v : Byte) : (v == 0) = decide (v.toNat = 0) := by
  rw [Bool.eq_iff_iff, beq_iff_eq, decide_eq_true_eq, ← BitVec.toNat_inj]
  rfl

theorem beq_zero_ofInt (k : Int) : ((BitVec.ofInt 8 k : Byte) == 0) = decide (k % 256 = 0) := by
  rw [beq_zero_eq, ← toNat_ofInt]
  exact decide_eq_decide.2 (by omega)

/-! AND, ORA, EOR and BIT (R145 to R148). -/

section
variable {s t : State}

theorem State.ReadFrame.a (h : s.ReadFrame t) : t.a = s.a := by
  unfold State.ReadFrame at h
  rw [h]

theorem State.ReadFrame.x (h : s.ReadFrame t) : t.x = s.x := by
  unfold State.ReadFrame at h
  rw [h]

theorem State.ReadFrame.y (h : s.ReadFrame t) : t.y = s.y := by
  unfold State.ReadFrame at h
  rw [h]

end

theorem State.bitTest_eq (s : State) (v : Byte) : s.bitTest v = { s with flags := { s.flags with
    n := decide (128 ≤ v.toNat), v := decide (64 ≤ v.toNat % 128), z := decide (s.a &&& v = 0) } } := by
  rw [State.bitTest, bitOf_seven, bitOf_six]
  rfl

/-! CMP, CPX and CPY (R149). -/

theorem Flags.compare_eq_compareFlags (f : Flags) (reg v : Byte) : f.compare reg v = compareFlags f reg v := by
  have hz : (reg - v).toNat = 0 ↔ reg = v := by bv_omega
  simp only [Flags.compare, Flags.setNZ_eq_nzFlags, nzFlags, Flags.setC, compareFlags, hz]
  rfl

theorem State.compare_eq (s : State) (reg v : Byte) : s.compare reg v = { s with flags := compareFlags s.flags reg v } := by
  rw [← Flags.compare_eq_compareFlags]
  rfl

/-! Binary ADC and SBC (R141, R143). -/

/-- Bit 7 as R141 and R143 compute V: whether the signs of two pairs of bytes both differ. -/
theorem bitOf_seven_xor_and_xor (p q x y : Byte) : bitOf ((p ^^^ q) &&& (x ^^^ y)) 7 =
    decide (¬(128 ≤ p.toNat ↔ 128 ≤ q.toNat) ∧ ¬(128 ≤ x.toNat ↔ 128 ≤ y.toNat)) := by
  have hbits : bitOf ((p ^^^ q) &&& (x ^^^ y)) 7 = ((bitOf p 7 ^^ bitOf q 7) && (bitOf x 7 ^^ bitOf y 7)) := by
    simp only [bitOf, BitVec.getLsbD_and, BitVec.getLsbD_xor]
  rw [hbits, bitOf_seven, bitOf_seven, bitOf_seven, bitOf_seven, Bool.eq_iff_iff]
  simp only [Bool.and_eq_true, bne_iff_ne, ne_eq, decide_eq_true_eq, decide_eq_decide]

/-- The sign bits of the operands and the result tell whether the signed sum fits a byte. -/
theorem addOverflow_eq (a v : Byte) (c : Bool) :
    addOverflow a v (BitVec.ofNat 8 (a.toNat + v.toNat + c.toNat)) =
      decide (a.toInt + v.toInt + c.toNat < -128 ∨ 127 < a.toInt + v.toInt + c.toNat) := by
  have hc := c.toNat_le
  rw [addOverflow, bitOf_seven_xor_and_xor, BitVec.toNat_ofNat, a.toInt_eq_toNat_cond, v.toInt_eq_toNat_cond, decide_eq_decide]
  omega

/-- R141: ADC with D = 0. -/
theorem State.adc_eq_binary {s : State} (hd : s.flags.d = false) (v : Byte) {sum : Nat} {signed : Int}
    (hsum : sum = s.a.toNat + v.toNat + s.flags.c.toNat) (hsigned : signed = s.a.toInt + v.toInt + s.flags.c.toNat) :
    s.adc v = { s with
      a := BitVec.ofNat 8 sum
      flags := { s.flags with
        n := decide (128 ≤ sum % 256), z := decide (sum % 256 = 0)
        c := decide (255 < sum), v := decide (signed < -128 ∨ 127 < signed) } } := by
  rw [hsigned, ← addOverflow_eq, ← hsum]
  simp only [State.adc, hd, addBinary, Flags.binaryResult, Flags.setNZ_eq_nzFlags, carryNat_eq_toNat, ← hsum, nzFlags_ofNat]
  rfl

/-- The sign bits of the operands and the result tell whether the signed difference fits a byte. -/
theorem subOverflow_eq (a v : Byte) (c : Bool) :
    subOverflow a v (BitVec.ofInt 8 (a.toNat - v.toNat - (1 - c.toNat))) =
      decide (a.toInt - v.toInt - (1 - c.toNat) < -128 ∨ 127 < a.toInt - v.toInt - (1 - c.toNat)) := by
  have hc := c.toNat_le
  have hr := toNat_ofInt (a.toNat - v.toNat - (1 - c.toNat))
  rw [subOverflow, bitOf_seven_xor_and_xor, a.toInt_eq_toNat_cond, v.toInt_eq_toNat_cond, decide_eq_decide]
  omega

/-- R143: SBC with D = 0. -/
theorem State.sbc_eq_binary {s : State} (hd : s.flags.d = false) (v : Byte) {diff signed : Int}
    (hdiff : diff = s.a.toNat - v.toNat - (1 - s.flags.c.toNat))
    (hsigned : signed = s.a.toInt - v.toInt - (1 - s.flags.c.toNat)) :
    s.sbc v = { s with
      a := BitVec.ofInt 8 diff
      flags := { s.flags with
        n := decide (128 ≤ diff % 256), z := decide (diff % 256 = 0)
        c := decide (0 ≤ diff), v := decide (signed < -128 ∨ 127 < signed) } } := by
  rw [hsigned, ← subOverflow_eq, ← hdiff]
  simp only [State.sbc, hd, subBinary, Flags.binaryResult, Flags.setNZ_eq_nzFlags, carryNat_eq_toNat, ← hdiff, nzFlags_ofInt]
  rfl

/-! Decimal ADC and SBC (R142, R144). -/

/-- R142 in the terms of the statements. -/
theorem addDecimal_eq (a v : Byte) (c : Bool) {al sum : Nat} (hal : al = a.toNat % 16 + v.toNat % 16 + c.toNat)
    (hsum : sum = a.toNat / 16 * 16 + v.toNat / 16 * 16 + (if 10 ≤ al then (al + 6) % 16 + 16 else al)) :
    addDecimal a v c = ⟨BitVec.ofNat 8 (if 0xA0 ≤ sum then sum + 0x60 else sum),
      decide (0x100 ≤ if 0xA0 ≤ sum then sum + 0x60 else sum)⟩ := by
  simp only [addDecimal, decimalAddLow, carryNat_eq_toNat, ← hal, ← hsum]

/-- R144 in the terms of the statements; the carry is that of the binary difference. -/
theorem subDecimal_eq (a v : Byte) (c : Bool) {al diff : Int}
    (hal : al = (a.toNat % 16 : Nat) - (v.toNat % 16 : Nat) + c.toNat - 1)
    (hdiff : diff = (a.toNat / 16 * 16 : Nat) - (v.toNat / 16 * 16 : Nat) + (if al < 0 then (al - 6) % 16 - 16 else al)) :
    subDecimal a v c = ⟨BitVec.ofInt 8 (if diff < 0 then diff - 0x60 else diff),
      decide (v.toNat + 1 ≤ a.toNat + c.toNat)⟩ := by
  have hcarry : (subBinary a v c).carry = decide (v.toNat + 1 ≤ a.toNat + c.toNat) := by
    simp only [subBinary, carryNat_eq_toNat]
    exact decide_eq_decide.2 (by omega)
  simp only [subDecimal, decimalSubLow, carryNat_eq_toNat, hcarry, ← hal, ← hdiff]

/-- R142, log 6: ADC with D = 1; N and V are drawn. -/
theorem State.adc_eq_decimal {s : State} (hd : s.flags.d = true) (v : Byte) {al sum : Nat}
    (hal : al = s.a.toNat % 16 + v.toNat % 16 + s.flags.c.toNat)
    (hsum : sum = s.a.toNat / 16 * 16 + v.toNat / 16 * 16 + (if 10 ≤ al then (al + 6) % 16 + 16 else al)) :
    s.adc v = { s with
      a := BitVec.ofNat 8 (if 0xA0 ≤ sum then sum + 0x60 else sum)
      flags := { s.flags with
        n := Config.freeFlag s.draws, v := Config.freeFlag (s.draws + 1)
        z := decide ((if 0xA0 ≤ sum then sum + 0x60 else sum) % 256 = 0)
        c := decide (0x100 ≤ if 0xA0 ≤ sum then sum + 0x60 else sum) }
      draws := s.draws + 2 } := by
  rw [State.adc, if_pos hd, addDecimal_eq _ _ _ hal hsum, State.decimalA, Flags.decimalResult, beq_zero_eq]
  rfl

/-- R144, log 6: SBC with D = 1; N and V are drawn. -/
theorem State.sbc_eq_decimal {s : State} (hd : s.flags.d = true) (v : Byte) {al diff : Int}
    (hal : al = (s.a.toNat % 16 : Nat) - (v.toNat % 16 : Nat) + s.flags.c.toNat - 1)
    (hdiff : diff = (s.a.toNat / 16 * 16 : Nat) - (v.toNat / 16 * 16 : Nat) + (if al < 0 then (al - 6) % 16 - 16 else al)) :
    s.sbc v = { s with
      a := BitVec.ofInt 8 (if diff < 0 then diff - 0x60 else diff)
      flags := { s.flags with
        n := Config.freeFlag s.draws, v := Config.freeFlag (s.draws + 1)
        z := decide ((if diff < 0 then diff - 0x60 else diff) % 256 = 0)
        c := decide (v.toNat + 1 ≤ s.a.toNat + s.flags.c.toNat) }
      draws := s.draws + 2 } := by
  rw [State.sbc, if_pos hd, subDecimal_eq _ _ _ hal hdiff, State.decimalA, Flags.decimalResult, beq_zero_ofInt]
  rfl

/-! On decimal digits, each adjustment of R142 and R144 keeps the last decimal digit of a digit sum or difference in its four
bits and carries or borrows the rest. -/

theorem decimalLow_add {al : Nat} (h : al < 20) :
    (if 10 ≤ al then (al + 6) % 16 + 16 else al) = al / 10 * 16 + al % 10 := by
  split <;> omega

theorem decimalHigh_add {n : Nat} (h : n < 200) :
    (if 0xA0 ≤ n / 10 * 16 + n % 10 then n / 10 * 16 + n % 10 + 0x60 else n / 10 * 16 + n % 10) =
      n / 100 * 256 + n / 10 % 10 * 16 + n % 10 := by
  split <;> omega

theorem decimalLow_sub {al : Int} (h : -10 ≤ al) (h' : al < 10) :
    (if al < 0 then (al - 6) % 16 - 16 else al) = al / 10 * 16 + al % 10 := by
  split <;> omega

theorem decimalHigh_sub {n : Nat} (h : n < 200) :
    (if ((n / 10 : Nat) - 10) * 16 + (n % 10 : Nat) < (0 : Int)
      then ((n / 10 : Nat) - 10) * 16 + (n % 10 : Nat) - (0x60 : Int) else ((n / 10 : Nat) - 10) * 16 + (n % 10 : Nat)) =
      ((n / 100 : Nat) - 1) * 256 + (n / 10 % 10 * 16 + n % 10 : Nat) := by
  split <;> omega

/-- The value of a byte of two decimal digits. -/
theorem value_of_digits {r n : Nat} (h : r = n / 10 % 10 * 16 + n % 10) : r / 16 * 10 + r % 16 = n % 100 ∧ r % 16 < 10 := by
  omega

section
variable {a v : Byte} (ha : a.toNat / 16 < 10) (ha' : a.toNat % 16 < 10) (hv : v.toNat / 16 < 10) (hv' : v.toNat % 16 < 10)
include ha ha' hv hv'

/-- R142 on two-digit bytes: the two digits of the sum, and whether it reaches 100. -/
theorem addDecimal_digits (c : Bool) {n : Nat}
    (hn : n = a.toNat / 16 * 10 + a.toNat % 16 + (v.toNat / 16 * 10 + v.toNat % 16) + c.toNat) :
    (addDecimal a v c).res.toNat = n / 10 % 10 * 16 + n % 10 ∧ (addDecimal a v c).carry = decide (100 ≤ n) := by
  have hc := c.toNat_le
  rw [addDecimal_eq a v c (sum := n / 10 * 16 + n % 10) rfl (by rw [decimalLow_add (by omega)]; omega),
    decimalHigh_add (by omega), decide_eq_decide, BitVec.toNat_ofNat]
  omega

/-- R144 on two-digit bytes: with 100 borrowed, the two digits of the difference, and whether the borrow was not needed. -/
theorem subDecimal_digits (c : Bool) {n : Nat}
    (hn : n = a.toNat / 16 * 10 + a.toNat % 16 + 99 + c.toNat - (v.toNat / 16 * 10 + v.toNat % 16)) :
    (subDecimal a v c).res.toNat = n / 10 % 10 * 16 + n % 10 ∧ (subDecimal a v c).carry = decide (100 ≤ n) := by
  have hc := c.toNat_le
  rw [subDecimal_eq a v c (diff := ((n / 10 : Nat) - 10) * 16 + (n % 10 : Nat)) rfl
    (by rw [decimalLow_sub (by omega) (by omega)]; omega), decimalHigh_sub (by omega), decide_eq_decide]
  exact ⟨toNat_ofInt_add (by omega) _, by omega⟩

end

/-! INC, DEC and the shifts in memory (R152, R153, R170 to R174). -/

/-- R152, R153, R171 to R174: INC, DEC, a shift or a rotate as `modifiedByte` and `modifiedCarry` state it. -/
def modifyOf (m : Mnemonic) : Modify := fun v s => (modifiedByte m v s.flags.c,
  { s with flags := { nzFlags s.flags (modifiedByte m v s.flags.c) with c := modifiedCarry m v s.flags.c } })

theorem incModify_eq : incModify = modifyOf .inc := by
  funext v s
  simp only [incModify, modifyOf, State.setNZ, State.setFlags, Flags.setNZ_eq_nzFlags, nzFlags, add_one_eq_ofNat, modifiedByte,
    modifiedCarry]
  rfl

theorem decModify_eq : decModify = modifyOf .dec := by
  funext v s
  simp only [decModify, modifyOf, State.setNZ, State.setFlags, Flags.setNZ_eq_nzFlags, nzFlags, sub_one_eq_ofNat, modifiedByte,
    modifiedCarry]
  rfl

/-- A bit shifted in from below is added to the doubled byte. -/
theorem shiftLeft_eq (v : Byte) (b : Bool) :
    shiftLeft v b = ⟨BitVec.ofNat 8 (2 * v.toNat + b.toNat), decide (128 ≤ v.toNat)⟩ := by
  have hdisj : v <<< 1 &&& (BitVec.ofBool b).setWidth 8 = 0 := by
    ext i hi
    cases i <;> simp
  have hres : v <<< 1 + (BitVec.ofBool b).setWidth 8 = BitVec.ofNat 8 (2 * v.toNat + b.toNat) := by
    apply BitVec.eq_of_toNat_eq
    cases b <;> simp [Nat.shiftLeft_eq, Nat.mul_comm]
  rw [shiftLeft, bitOf_seven, ← BitVec.add_eq_or_of_and_eq_zero _ _ hdisj, hres]

/-- A bit shifted in from above is added to the halved byte as 128. -/
theorem shiftRight_eq (v : Byte) (b : Bool) :
    shiftRight v b = ⟨BitVec.ofNat 8 (v.toNat / 2 + 128 * b.toNat), decide (v.toNat % 2 = 1)⟩ := by
  have hdisj : v >>> 1 &&& (BitVec.ofBool b).setWidth 8 <<< 7 = 0 := by
    ext i hi
    rcases (by omega : 8 ≤ 1 + i ∨ i < 7) with h | h
    · simp [BitVec.getLsbD_of_ge v (1 + i) h]
    · simp [h]
  have hres : v >>> 1 + (BitVec.ofBool b).setWidth 8 <<< 7 = BitVec.ofNat 8 (v.toNat / 2 + 128 * b.toNat) := by
    apply BitVec.eq_of_toNat_eq
    have := v.isLt
    cases b <;> simp [Nat.shiftRight_succ]
    omega
  rw [shiftRight, bitOf_zero, ← BitVec.add_eq_or_of_and_eq_zero _ _ hdisj, hres]

/-- R170: a shift by `op` is what the byte and the carry of `op` make of the flags. -/
theorem shiftModify_eq {op : Byte → Bool → Alu} {m : Mnemonic}
    (h : ∀ v c, op v c = ⟨modifiedByte m v c, modifiedCarry m v c⟩) : shiftModify op = modifyOf m := by
  funext v s
  rw [shiftModify, modifyOf, State.shiftFlags, Flags.setNZ_eq_nzFlags, h]
  rfl

theorem shiftModify_asl : shiftModify aslByte = modifyOf .asl := shiftModify_eq fun v _ => shiftLeft_eq v false
theorem shiftModify_lsr : shiftModify lsrByte = modifyOf .lsr := shiftModify_eq fun v _ => shiftRight_eq v false
theorem shiftModify_rol : shiftModify rolByte = modifyOf .rol := shiftModify_eq shiftLeft_eq
theorem shiftModify_ror : shiftModify rorByte = modifyOf .ror := shiftModify_eq shiftRight_eq

/-- R152, R153, R170 to R174: the six mnemonics on their operand, in memory or the accumulator. -/
theorem exec_eq_modifyOf {i : Instr} (hm : i.mnemonic ∈ [Mnemonic.inc, .dec, .asl, .lsr, .rol, .ror]) (s : State) :
    exec i s = modifyAny i.operand (modifyOf i.mnemonic) s := by
  rw [exec_eq]
  generalize i.mnemonic = m at hm ⊢
  cases m
  case inc => rw [← incModify_eq]; rfl
  case dec => rw [← decModify_eq]; rfl
  case asl => rw [← shiftModify_asl]; rfl
  case lsr => rw [← shiftModify_lsr]; rfl
  case rol => rw [← shiftModify_rol]; rfl
  case ror => rw [← shiftModify_ror]; rfl
  all_goals exact absurd hm (by decide)

theorem modifyAny_of_isStore {o : Operand} (ho : o.isStore = true) (sem : Modify) (s : State) :
    modifyAny o sem s = modifyInstr o sem s := by
  cases o
  case acc => cases ho
  all_goals rfl

/-- An RMW-type instruction on an operand in memory is its write, with `PC` past the instruction where that answers. -/
theorem modifyAny_nextPc {o : Operand} (ho : o.isStore = true) {s t w : State} {a : Addr} {v r : Byte} {sem : Modify}
    (h : s.ReadsTarget o a v t) (hsem : ∀ (u : State) (c : Nat), sem v { u with clock := c } =
      ((sem v u).1, { (sem v u).2 with clock := c })) (hpar : ∀ u : State, (sem v u).2.params = u.params)
    (hw : sem v t = (r, w)) (hpc : w.pc = t.pc) :
    modifyAny o sem s = andThen (busWrite a r w) fun u => .next { u with pc := nextPc s o } := by
  rw [modifyAny_of_isStore ho, modifyInstr_reads ho sem h hsem hpar, hw, busWrite_advance_nextPc (hpc.trans h.frame.pc)]

end Sys2Proof.Machine

open Sys2Proof Sys2Proof.Machine

/-- Settles O23: each is a read-type instruction; AND, ORA and EOR load A with their result. -/
theorem logicResults : Obligations.LogicResults := by
  unfold Obligations.LogicResults
  intro i s
  refine ⟨fun hd => State.readsOperand_answers hd i.operand, fun v t h => ?_⟩
  have ht := takes_operand i
  rw [exec_eq, ← h.frame.flags, ← h.frame.a]
  refine ⟨fun hm => ?_, fun hm => ?_, fun hm => ?_, fun hm => ?_⟩ <;> rw [hm] at ht ⊢
  · exact readInstr_nextPc (sem := andEffect) ht h (State.loadA_eq t (t.a &&& v)) rfl
  · exact readInstr_nextPc (sem := oraEffect) ht h (State.loadA_eq t (t.a ||| v)) rfl
  · exact readInstr_nextPc (sem := eorEffect) ht h (State.loadA_eq t (t.a ^^^ v)) rfl
  · exact readInstr_nextPc ht h (State.bitTest_eq t v) rfl

/-- Settles O28: each is a read-type instruction that compares its register with the operand byte. -/
theorem compareResults : Obligations.CompareResults := by
  unfold Obligations.CompareResults
  intro i s
  refine ⟨fun hd => State.readsOperand_answers hd i.operand, fun v t h => ?_⟩
  have ht := takes_operand i
  rw [exec_eq, ← h.frame.flags, ← h.frame.a, ← h.frame.x, ← h.frame.y]
  refine ⟨fun hm => ?_, fun hm => ?_, fun hm => ?_⟩ <;> rw [hm] at ht ⊢
  · exact readInstr_nextPc (sem := cmpEffect) ht h (State.compare_eq t t.a v) rfl
  · exact readInstr_nextPc (sem := cpxEffect) ht h (State.compare_eq t t.x v) rfl
  · exact readInstr_nextPc (sem := cpyEffect) ht h (State.compare_eq t t.y v) rfl

/-- Settles O24: ADC is a read-type instruction, and V is the signed overflow by `addOverflow_eq`. -/
theorem adcBinaryResult : Obligations.AdcBinaryResult := by
  unfold Obligations.AdcBinaryResult
  intro i s hm hd
  refine ⟨fun hb => State.readsOperand_answers hb i.operand, fun v t h sum signed hsum hsigned => ?_⟩
  have ht := takes_operand i
  rw [hm] at ht
  rw [exec_eq, hm, ← h.frame.flags]
  rw [← h.frame.flags] at hd hsum hsigned
  rw [← h.frame.a] at hsum hsigned
  exact readInstr_nextPc ht h (State.adc_eq_binary hd v hsum hsigned) rfl

/-- Settles O25: SBC is a read-type instruction, and V is the signed overflow by `subOverflow_eq`. -/
theorem sbcBinaryResult : Obligations.SbcBinaryResult := by
  unfold Obligations.SbcBinaryResult
  intro i s hm hd
  refine ⟨fun hb => State.readsOperand_answers hb i.operand, fun v t h diff signed hdiff hsigned => ?_⟩
  have ht := takes_operand i
  rw [hm] at ht
  rw [exec_eq, hm, ← h.frame.flags]
  rw [← h.frame.flags] at hd hdiff hsigned
  rw [← h.frame.a] at hdiff hsigned
  exact readInstr_nextPc ht h (State.sbc_eq_binary hd v hdiff hsigned) rfl

/-- Settles O26: ADC and SBC put the result of the digit-wise algorithm into A, with the drawn N and V. -/
theorem decimalResults : Obligations.DecimalResults := by
  unfold Obligations.DecimalResults
  intro i s hd
  refine ⟨fun hb => State.readsOperand_answers hb i.operand, fun v t h => ?_⟩
  have ht := takes_operand i
  rw [← h.frame.flags] at hd
  rw [exec_eq, ← h.frame.flags, ← h.frame.a]
  refine ⟨fun hm al sum hal hsum => ?_, fun hm al diff hal hdiff => ?_⟩ <;> rw [hm] at ht ⊢
  · exact ⟨_, _, readInstr_nextPc ht h (State.adc_eq_decimal hd v hal hsum) rfl⟩
  · exact ⟨_, _, readInstr_nextPc ht h (State.sbc_eq_decimal hd v hal hdiff) rfl⟩

/-- Settles O27: the digits of the result are the digit sums or differences modulo 10, which carry or borrow as the decimal
numbers do. -/
theorem decimalArithmeticIsDecimal : Obligations.DecimalArithmeticIsDecimal := by
  unfold Obligations.DecimalArithmeticIsDecimal
  intro a v c da dv
  have hle : 100 ≤ da + 99 + c.toNat - dv ↔ dv + 1 ≤ da + c.toNat := by omega
  intro ha ha' hv hv' hda hdv
  obtain ⟨hsum, hcarry⟩ := addDecimal_digits ha ha' hv hv' c rfl
  obtain ⟨hdiff, hborrow⟩ := subDecimal_digits ha ha' hv hv' c rfl
  rw [← hda, ← hdv] at hsum hcarry hdiff hborrow
  obtain ⟨hadd, haddLow⟩ := value_of_digits hsum
  obtain ⟨hsub, hsubLow⟩ := value_of_digits hdiff
  exact ⟨⟨hadd, haddLow, hcarry⟩, hsub, hsubLow, hborrow.trans (decide_eq_decide.2 hle)⟩

/-- Settles O36: the instruction is its write, which answers unless the spec or a collaborator refuses it. -/
theorem memoryModifyResults : Obligations.MemoryModifyResults := by
  unfold Obligations.MemoryModifyResults
  intro i s t w a v r hm ho h hr hw
  rw [← h.frame.flags] at hr hw
  have hstore : i.operand.isStore = true := operand_isStore ((by decide : _ ⊆ storingMnemonics) hm) ho
  have hx : exec i s = andThen (busWrite a r w) fun u => .next { u with pc := nextPc s i.operand } := by
    rw [exec_eq_modifyOf hm]
    exact modifyAny_nextPc hstore h (fun _ _ => rfl) (fun _ => rfl) (by rw [hw, hr]; rfl) (by rw [hw])
  have hpar : w.params = s.params := by
    rw [hw]
    exact h.frame.params
  rw [hx]
  refine ⟨fun hs hc => ?_, ?_⟩
  · obtain ⟨u, hu⟩ := busWrite_answers hs ((State.mayRefuse_congr hpar a).trans hc)
    exact ⟨u, hu, by rw [hu, andThen_next]⟩
  · cases busWrite a r w <;> rfl

/-- Settles O32: each is an implied instruction that loads the register with one more or one less. -/
theorem registerStepResults : Obligations.RegisterStepResults := by
  unfold Obligations.RegisterStepResults
  rintro s r x1 y1 x0 y0 rfl hx1 hy1 hx0 hy0
  have hup : ∀ {b b1 : Byte}, b1.toNat = (b.toNat + 1) % 256 → b1 = b + 1 := fun h =>
    (BitVec.eq_of_toNat_eq h).trans (add_one_eq_ofNat _).symm
  have hdown : ∀ {b b0 : Byte}, b0.toNat = (b.toNat + 255) % 256 → b0 = b - 1 := fun h =>
    (BitVec.eq_of_toNat_eq h).trans (sub_one_eq_ofNat _).symm
  rw [hup hx1, hup hy1, hdown hx0, hdown hy0]
  refine ⟨rfl, ?_, rfl, ?_, rfl, ?_, rfl, ?_⟩ <;> rw [exec_eq]
  · exact impliedInstr_nextPc inxEffect (State.loadX_eq _ (s.x + 1)) rfl
  · exact impliedInstr_nextPc inyEffect (State.loadY_eq _ (s.y + 1)) rfl
  · exact impliedInstr_nextPc dexEffect (State.loadX_eq _ (s.x - 1)) rfl
  · exact impliedInstr_nextPc deyEffect (State.loadY_eq _ (s.y - 1)) rfl
end

section
/-! PROOF. Shift and rotate instructions on the accumulator (43_shift_rotate.md). What they make of A and the flags is
`modifyOf`, as for their forms in memory; what is left is the cost and `PC` of an accumulator instruction. -/

namespace Sys2Proof.Machine

theorem accShift_mnemonic_operand : ∀ i ∈ [Instr.aslAcc, .lsrAcc, .rolAcc, .rorAcc],
    i.mnemonic ∈ [Mnemonic.inc, .dec, .asl, .lsr, .rol, .ror] ∧ i.operand = .acc := by decide

/-- R109, R111: an accumulator instruction completes with the modified byte in A and its flags, 2 cycles on, `PC` one
further. -/
theorem accInstr_modifyOf (m : Mnemonic) (s : State) :
    accInstr (modifyOf m) s = .next { s with
      a := modifiedByte m s.a s.flags.c
      flags := { nzFlags s.flags (modifiedByte m s.a s.flags.c) with c := modifiedCarry m s.a s.flags.c }
      pc := BitVec.ofNat 16 (s.pc.toNat + 1), clock := s.clockAfter 2 } := by
  have hclock : (s.charge 1).clockAfter 1 = s.clockAfter 2 := congrArg State.clock (s.charge_charge 1 1)
  have hpc : (s.advance 0).pc = BitVec.ofNat 16 (s.pc.toNat + 1) := congrArg State.pc (State.advance_eq_nextPc rfl .acc)
  rw [accInstr_eq, ← hclock, ← hpc]
  rfl

end Sys2Proof.Machine

open Sys2Proof Sys2Proof.Machine

/-- Settles O34: each is its mnemonic's modification of A, by the same `modifyOf` as in memory. -/
theorem accumulatorShiftResults : Obligations.AccumulatorShiftResults := by
  unfold Obligations.AccumulatorShiftResults
  intro i s hi
  obtain ⟨hm, ho⟩ := accShift_mnemonic_operand i hi
  rw [exec_eq_modifyOf hm, ho]
  exact accInstr_modifyOf i.mnemonic s

end

section
/-! PROOF. Branches, jumps, call and return, BRK and RTI (44_control_flow.md). Every push and pull is one of RAM, so
the stack instructions have equations in `stackWritten` and `stackByte`; a return undoes a call because the stack bytes of the
two are the same RAM bytes. -/

namespace Sys2Proof.Machine

/-! Sequencing (R105). -/

theorem andThen_assoc {α β γ : Type} (o : Result α) (f : α → Result β) (g : β → Result γ) :
    andThen (andThen o f) g = andThen o fun a => andThen (f a) g := by cases o <;> rfl

theorem andThen_congr {α β : Type} {o : Result α} {f g : α → Result β} (h : ∀ a, o = .next a → f a = g a) :
    andThen o f = andThen o g := by
  cases o with
  | next a => exact h a rfl
  | fault r => rfl
  | refused r => rfl

/-! Branches (R180). -/

theorem addr_add_two_eq_ofNat (a : Addr) : a + 2 = BitVec.ofNat 16 (a.toNat + 2) := by
  apply BitVec.eq_of_toNat_eq
  simp

/-- R73, R180: the displacement is signed and counts from `pc + 2`. -/
theorem branchTarget_eq_ofInt (pc : Addr) (d : Byte) : branchTarget pc d = BitVec.ofInt 16 (pc.toNat + d.toInt + 2) := by
  rw [BitVec.ofInt_add, BitVec.ofInt_add, BitVec.ofInt_natCast, BitVec.ofNat_toNat, BitVec.setWidth_eq]
  rfl

theorem hiByte_ne_hiByte_iff {a b : Addr} : hiByte a ≠ hiByte b ↔ a.toNat / 256 ≠ b.toNat / 256 := by
  rw [Ne, ← BitVec.toNat_inj, toNat_hiByte, toNat_hiByte]

/-- R180: a branch on a condition, in the terms of the statements. -/
theorem branchInstr_eq {cond : Bool} {p : Prop} [Decidable p] (hp : cond = true ↔ p) (s : State) (d : Byte)
    {target next : Addr} (ht : target = BitVec.ofInt 16 (s.pc.toNat + d.toInt + 2))
    (hn : next = BitVec.ofNat 16 (s.pc.toNat + 2)) :
    branchInstr cond d s = .next (if p then { s with
        pc := target, clock := s.clockAfter (2 + 1 + if target.toNat / 256 ≠ next.toNat / 256 then 1 else 0) }
      else { s with pc := next, clock := s.clockAfter 2 }) := by
  rw [← branchTarget_eq_ofInt] at ht
  rw [← addr_add_two_eq_ofNat] at hn
  subst ht hn
  simp only [branchInstr, takenCycles, hiByte_ne_hiByte_iff, hp]
  split <;> rfl

/-! Jumps (R189). -/

/-- R189: a jump goes to its effective address at the cost of the whole instruction. -/
theorem jumpInstr_of_effective {o : Operand} {s t : State} {e : Effective} (h : effective o s = .next (e, t)) (n : Nat) :
    jumpInstr o n s = .next { t with pc := e.addr, clock := s.clockAfter n } := by
  rw [jumpInstr, h, andThen_next, (effective_frame h).charge_eq]
  rfl

/-! The status byte (R18). -/

/-- A bit is set if the number of the bits up to it reaches the bit's weight. -/
theorem bitOf_eq (v : Byte) (i : Nat) : bitOf v i = decide (2 ^ i ≤ v.toNat % 2 ^ (i + 1)) := by
  have hlt := Nat.mod_lt v.toNat (Nat.two_pow_pos i)
  rw [bitOf, BitVec.getLsbD, Nat.testBit_eq_decide_div_mod_eq, decide_eq_decide, Nat.pow_succ, Nat.mod_mul]
  rcases Nat.mod_two_eq_zero_or_one (v.toNat / 2 ^ i) with h | h <;> simp [h, hlt]

theorem pulledFlags_eq (p : Byte) : pulledFlags p = {
    n := decide (128 ≤ p.toNat), v := decide (64 ≤ p.toNat % 128), d := decide (8 ≤ p.toNat % 16)
    i := decide (4 ≤ p.toNat % 8), z := decide (2 ≤ p.toNat % 4), c := decide (p.toNat % 2 = 1) } := by
  rw [pulledFlags, bitOf_seven, bitOf_six, bitOf_zero, bitOf_eq, bitOf_eq, bitOf_eq]
  rfl

theorem pushedStatus_eq_statusByte : ∀ f : Flags, pushedStatus f = statusByte f := by
  rintro ⟨n, v, d, i, z, c⟩
  revert n v d i z c
  decide

theorem pulledFlags_pushedStatus : ∀ f : Flags, pulledFlags (pushedStatus f) = f := by
  rintro ⟨n, v, d, i, z, c⟩
  revert n v d i z c
  decide

theorem pulledFlags_statusByte (f : Flags) : pulledFlags (statusByte f) = f := by
  rw [← pushedStatus_eq_statusByte, pulledFlags_pushedStatus]

/-! The stack bytes (R15, R43). -/

theorem wf_stackWritten {m : Memory} (h : Memory.wf m = true) (sp v : Byte) : Memory.wf (stackWritten m sp v) = true :=
  Memory.wf_write v (Memory.isKey_ram (Nat.mod_lt _ (by decide))) h

theorem stackByte_stackWritten {m : Memory} (h : Memory.wf m = true) (sp v : Byte) :
    stackByte (stackWritten m sp v) sp = v := Memory.read_write _ v h

theorem stackByte_stackWritten_ne (m : Memory) (v : Byte) {p q : Byte} (h : p.toNat % 0x80 ≠ q.toNat % 0x80) :
    stackByte (stackWritten m q v) p = stackByte m p :=
  Memory.read_write_ne (fun hk => h (ramKey_inj.1 hk)) v m

/-- R51: no stack byte lies in ROM. -/
theorem read_romKey_stackWritten (m : Memory) (sp v : Byte) (o : Nat) :
    Memory.read (stackWritten m sp v) (romKey o) = Memory.read m (romKey o) :=
  read_romKey_write_ramKey (Nat.mod_lt _ (by decide)) m v o

/-- The state after a byte is pushed (R15). -/
def State.pushed (s : State) (v : Byte) : State := { s with mem := stackWritten s.mem s.sp v, sp := s.sp - 1 }

/-- The state after a return address is pushed, high byte first (R57). -/
def State.pushedAddr (s : State) (ret : Addr) : State := { s with
  mem := stackWritten (stackWritten s.mem s.sp (hiByte ret)) (s.sp - 1) (loByte ret), sp := s.sp - 2 }

theorem push_eq_pushed (v : Byte) (s : State) : push v s = .next (s.pushed v) := push_eq v s

theorem pushAddr_eq_pushedAddr (ret : Addr) (s : State) : pushAddr ret s = .next (s.pushedAddr ret) := by
  rw [pushAddr_eq, sub_sub]
  rfl

theorem pull_eq_stackByte (s : State) : pull s = .next (stackByte s.mem (s.sp + 1), { s with sp := s.sp + 1 }) := pull_eq s

theorem pullAddr_eq_stackByte (s : State) : pullAddr s =
    .next (joinBytes (stackByte s.mem (s.sp + 1)) (stackByte s.mem (s.sp + 2)), { s with sp := s.sp + 2 }) := by
  rw [pullAddr_eq, add_assoc]
  rfl

theorem hiByte_eq_ofNat (a : Addr) : hiByte a = BitVec.ofNat 8 (a.toNat / 256) := by
  rw [← toNat_hiByte, BitVec.ofNat_toNat, BitVec.setWidth_eq]

theorem loByte_eq_ofNat (a : Addr) : loByte a = BitVec.ofNat 8 (a.toNat % 256) := by
  rw [← toNat_loByte, BitVec.ofNat_toNat, BitVec.setWidth_eq]

/-- Memory after a return address is pushed, in the terms of the statements. -/
theorem State.pushedAddr_mem (s : State) (ret : Addr) : (s.pushedAddr ret).mem =
    stackWritten (stackWritten s.mem s.sp (BitVec.ofNat 8 (ret.toNat / 256))) (s.sp - 1)
      (BitVec.ofNat 8 (ret.toNat % 256)) := by
  rw [← hiByte_eq_ofNat, ← loByte_eq_ofNat]
  rfl

/-- R15: the byte pulled after a push of `v` is `v`. -/
theorem State.stackByte_pushed {s : State} (h : Memory.wf s.mem = true) (v : Byte) :
    stackByte (s.pushed v).mem (s.sp - 1 + 1) = v := by
  rw [sub_add_cancel]
  exact stackByte_stackWritten h s.sp v

/-- R57: the address pulled after a push of `ret` is `ret`. -/
theorem State.joinBytes_pushedAddr {s : State} (h : Memory.wf s.mem = true) (ret : Addr) :
    joinBytes (stackByte (s.pushedAddr ret).mem (s.sp - 2 + 1)) (stackByte (s.pushedAddr ret).mem (s.sp - 2 + 2)) =
      ret := by
  have hlo : stackByte (s.pushedAddr ret).mem (s.sp - 1) = loByte ret :=
    stackByte_stackWritten (wf_stackWritten h _ _) _ _
  have hhi : stackByte (s.pushedAddr ret).mem s.sp = hiByte ret :=
    (stackByte_stackWritten_ne _ _ (by bv_omega)).trans (stackByte_stackWritten h _ _)
  have hsp : s.sp - 2 + 1 = s.sp - 1 := sub_add ..
  rw [hsp, sub_add_cancel, hlo, hhi, joinBytes_loByte_hiByte]

/-- R201, R202: a push instruction is its push, `PC` one further. -/
theorem pushInstr_eq (v : Byte) (n : Nat) (s : State) :
    pushInstr v n s = .next { s.pushed v with pc := BitVec.ofNat 16 (s.pc.toNat + 1), clock := s.clockAfter n } := by
  rw [pushInstr, push_eq_pushed, andThen_next]
  exact congrArg Host.Outcome.next (State.advance_eq_nextPc rfl .imp)

/-- R203, R204: a pull instruction uses the pulled byte. -/
theorem pullInstr_eq (sem : State → Byte → State) (n : Nat) (s : State) : pullInstr sem n s =
    .next (((sem { s with sp := s.sp + 1 } (stackByte s.mem (s.sp + 1))).charge n).advance 0) := by
  rw [pullInstr, pull_eq_stackByte, andThen_next]

/-! JSR and RTS (R190, R191). -/

/-- What JSR leaves, `PC` apart: the address of its third byte is pushed, 6 cycles on (R190). -/
def State.called (s : State) : State := { s.pushedAddr (s.pc + 2) with clock := s.clockAfter 6 }

theorem callInstr_eq (w : Addr) (s : State) : callInstr w s = .next { s.called with
    pc := joinBytes (loByte w) (refetched s s.called (s.pc + 2) (hiByte w)) } := by
  rw [callInstr, pushAddr_eq_pushedAddr]
  rfl

theorem returnInstr_eq (s : State) : returnInstr s = .next { s with
    sp := s.sp + 2, pc := joinBytes (stackByte s.mem (s.sp + 1)) (stackByte s.mem (s.sp + 2)) + 1
    clock := s.clockAfter 6 } := by
  rw [returnInstr, pullAddr_eq_stackByte]
  rfl

section
variable {s t : State} {a : Addr} {v : Byte}

/-- Whether an address has a storage byte is determined by the launch parameters. -/
theorem State.peek_eq_none_congr (hp : t.params = s.params) (h : s.peek a = none) : t.peek a = none := by
  unfold State.peek at h ⊢
  rw [hp]
  split at h
  · cases h
  · split at h
    · cases h
    · next hc => exact if_neg hc
  · rfl

theorem refetched_of_peek_eq (h : t.peek a = s.peek a) : refetched s t a v = v := if_pos h

/-- Where the fetched byte lies in storage, the byte fetched again is the one that lies there then. -/
theorem peek_eq_refetched (hp : t.params = s.params) (h : s.peek a = some v) : t.peek a = some (refetched s t a v) := by
  cases ht : t.peek a with
  | none =>
    rw [State.peek_eq_none_congr hp.symm ht] at h
    cases h
  | some b =>
    rw [refetched, ht, h]
    split
    · next hb => exact hb
    · rfl

end

/-! BRK and RTI (R192, R193). -/

/-- The state in which the trap reads its vector: the return address and the status byte are pushed and I is set (R192). -/
def State.trapped (s : State) (ret : Addr) : State := { s with
  mem := stackWritten (s.pushedAddr ret).mem (s.sp - 2) (statusByte s.flags)
  sp := s.sp - 3, flags := { s.flags with i := true } }

theorem takeTrap_eq (ret vector : Addr) (n : Nat) (s : State) : takeTrap ret vector n s =
    andThen (busRead16 vector (s.trapped ret)) fun dest => .next ((dest.2.charge n).setPc dest.1) := by
  have hsp : s.sp - 2 - 1 = s.sp - 3 := sub_sub ..
  rw [takeTrap, pushAddr_eq_pushedAddr, andThen_next, push_eq_pushed, andThen_next, pushedStatus_eq_statusByte,
    State.trapped, ← hsp]
  rfl

theorem route_brkVector : route 0xFFFE = some (.cart 0xFFE) := by decide

theorem route_brkVector_high : route 0xFFFF = some (.cart 0xFFF) := by decide

/-- R46, R50: a read of the cartridge changes `CartState` only. -/
theorem busRead_eq_setCart {addr : Addr} {o : Nat} (hr : route addr = some (.cart o)) {s : State} {r : Byte × State}
    (h : busRead addr s = .next r) : r.2 = s.setCart r.2.cart := by
  rw [busRead_cart hr] at h
  obtain ⟨c, hc⟩ := cartRead_frame (answered_eq_next h)
  rw [hc]
  rfl

/-- R192: the trap of BRK, in the terms of the statements: its vector lies in the cartridge. -/
theorem takeTrap_brkVector (ret : Addr) (n : Nat) (s : State) : takeTrap ret brkVector n s =
    andThen (busRead 0xFFFE (s.trapped ret)) fun lo => andThen (busRead 0xFFFF lo.2) fun hi => .next { s.trapped ret with
      cart := hi.2.cart, pc := BitVec.ofNat 16 (256 * hi.1.toNat + lo.1.toNat), clock := s.clockAfter n } := by
  simp only [takeTrap_eq, busRead16, andThen_assoc, andThen_next]
  refine andThen_congr fun lo hlo => andThen_congr fun hi hhi => ?_
  have hu : hi.2 = (s.trapped ret).setCart hi.2.cart := by
    rw [busRead_eq_setCart route_brkVector_high hhi, busRead_eq_setCart route_brkVector hlo]
    rfl
  rw [joinBytes_eq_ofNat]
  generalize hi.2.cart = c at hu ⊢
  rw [hu]
  rfl

theorem State.peek_rom {s : State} {a : Addr} {o : Nat} (hc : s.params.cart = .singleBank)
    (h : route a = some (.cart o)) : s.peek a = some (Memory.read s.mem (romKey o)) := by
  simp only [State.peek, h, if_pos hc]

/-- R51: the pushes of the trap leave ROM. -/
theorem State.trapped_peek_rom {s : State} {a : Addr} {o : Nat} (h : route a = some (.cart o)) (ret : Addr) :
    (s.trapped ret).peek a = s.peek a := by
  refine State.peek_congr rfl fun k hk => ?_
  rw [storageKey_of_cart h] at hk
  cases hk
  simp only [State.trapped, State.pushedAddr, read_romKey_stackWritten]

theorem returnFromTrap_eq (n : Nat) (s : State) : returnFromTrap n s = .next { s with
    sp := s.sp + 3, pc := joinBytes (stackByte s.mem (s.sp + 2)) (stackByte s.mem (s.sp + 3)), clock := s.clockAfter n
    flags := pulledFlags (stackByte s.mem (s.sp + 1)) } := by
  have hsp : s.sp + 1 + 1 = s.sp + 2 ∧ s.sp + 1 + 2 = s.sp + 3 := ⟨add_assoc .., add_assoc ..⟩
  rw [returnFromTrap, pull_eq_stackByte, andThen_next, pullAddr_eq_stackByte, andThen_next, ← hsp.1, ← hsp.2]
  rfl

/-- R328: the first byte pulled after a trap is the status byte. -/
theorem State.stackByte_trapped {s : State} (h : Memory.wf s.mem = true) (ret : Addr) :
    stackByte (s.trapped ret).mem (s.sp - 3 + 1) = statusByte s.flags := by
  have hsp : s.sp - 3 + 1 = s.sp - 2 := sub_add ..
  rw [hsp]
  exact stackByte_stackWritten (wf_stackWritten (wf_stackWritten h _ _) _ _) _ _

/-- R328: the address pulled after it is the return address. -/
theorem State.joinBytes_trapped {s : State} (h : Memory.wf s.mem = true) (ret : Addr) :
    joinBytes (stackByte (s.trapped ret).mem (s.sp - 3 + 2)) (stackByte (s.trapped ret).mem (s.sp - 3 + 3)) = ret := by
  have hsp : s.sp - 3 + 2 = s.sp - 2 + 1 ∧ s.sp - 3 + 3 = s.sp - 2 + 2 := by constructor <;> bv_omega
  have hlo : stackByte (s.trapped ret).mem (s.sp - 2 + 1) = stackByte (s.pushedAddr ret).mem (s.sp - 2 + 1) :=
    stackByte_stackWritten_ne _ _ (by bv_omega)
  have hhi : stackByte (s.trapped ret).mem (s.sp - 2 + 2) = stackByte (s.pushedAddr ret).mem (s.sp - 2 + 2) :=
    stackByte_stackWritten_ne _ _ (by bv_omega)
  rw [hsp.1, hsp.2, hlo, hhi, State.joinBytes_pushedAddr h]

end Sys2Proof.Machine

open Sys2Proof Sys2Proof.Machine

/-- Settles O38: each branch tests one flag, or its negation. -/
theorem branchResults : Obligations.BranchResults := by
  unfold Obligations.BranchResults
  rintro s taken past d target next ht hn rfl rfl
  have hset := fun {flag : Bool} => branchInstr_eq (cond := flag) Iff.rfl s d ht hn
  have hclear := fun {flag : Bool} => branchInstr_eq (iff_of_eq (Bool.not_eq_true' flag)) s d ht hn
  exact ⟨rfl, hclear, rfl, hset, rfl, hclear, rfl, hset, rfl, hclear, rfl, hset, rfl, hclear, rfl, hset⟩

/-- Settles O40: the high byte is the one `refetched` gives, which is the fetched one unless the pushes changed it. -/
theorem jsrResult : Obligations.JsrResult := by
  unfold Obligations.JsrResult
  intro s t w ret hret ht
  have hpc : (s.pc + 2).toNat = ret := hret ▸ BitVec.toNat_add s.pc 2
  rw [← hpc, ← State.pushedAddr_mem] at ht
  replace ht : t = s.called := ht
  subst ht
  refine ⟨rfl, refetched s s.called (s.pc + 2) (hiByte w), ?_, fun hs => ?_, fun ht => ?_, fun hs => ?_⟩
  · rw [← toNat_loByte, ← joinBytes_eq_ofNat]
    exact callInstr_eq w s
  · have ht : s.called.peek (s.pc + 2) = none := State.peek_eq_none_congr (s := s) rfl hs
    rw [refetched_of_peek_eq (ht.trans hs.symm), toNat_hiByte]
  · rw [refetched_of_peek_eq ht, toNat_hiByte]
  · obtain ⟨b, hb, hw⟩ := Option.map_eq_some_iff.1 hs
    rw [← toNat_hiByte, BitVec.toNat_inj] at hw
    exact peek_eq_refetched rfl (hw ▸ hb)

/-- Settles O41: the vector is read from the cartridge, and the single bank's ROM is as it was before the pushes. -/
theorem brkTakesTheTrap : Obligations.BrkTakesTheTrap := by
  unfold Obligations.BrkTakesTheTrap
  intro s w ret hret hw
  have hpc : (s.pc + 2).toNat = ret := hret ▸ BitVec.toNat_add s.pc 2
  rw [← hpc, ← State.pushedAddr_mem] at hw
  replace hw : w = s.trapped (s.pc + 2) := hw
  subst hw
  have hx : exec .brk s = _ := takeTrap_brkVector (s.pc + 2) 7 s
  refine ⟨rfl, hx, fun hc => ?_⟩
  have hlo := State.peek_rom hc route_brkVector
  have hhi := State.peek_rom hc route_brkVector_high
  refine ⟨_, _, hlo, hhi, ?_⟩
  rw [← State.trapped_peek_rom route_brkVector (s.pc + 2)] at hlo
  rw [← State.trapped_peek_rom route_brkVector_high (s.pc + 2)] at hhi
  simp only [hx, busRead_storage hlo, busRead_storage hhi, andThen_next]

/-- Settles O42: RTI pulls three bytes, the flags first. -/
theorem rtiReturnsFromTheTrap : Obligations.RtiReturnsFromTheTrap := by
  unfold Obligations.RtiReturnsFromTheTrap
  rintro s p lo hi rfl rfl rfl
  rw [← pulledFlags_eq, ← joinBytes_eq_ofNat]
  exact ⟨rfl, returnFromTrap_eq 6 s⟩

/-- Settles O43: each return finds the stack as the call left it, and every pushed byte reads back. -/
theorem returnsUndoCalls : Obligations.ReturnsUndoCalls := by
  unfold Obligations.ReturnsUndoCalls
  intro s t hwf
  refine ⟨fun w h => ?_, fun h => ?_, fun h => ?_, fun h => ?_⟩
  · cases (callInstr_eq w s).symm.trans h
    have hret := State.joinBytes_pushedAddr hwf (s.pc + 2)
    exact ⟨_, returnInstr_eq _, (congrArg (· + 1) hret).trans (add_assoc ..), sub_add_cancel .., rfl⟩
  · obtain ⟨lo, -, h⟩ := andThen_eq_next ((takeTrap_brkVector (s.pc + 2) 7 s).symm.trans h)
    obtain ⟨hi, -, h⟩ := andThen_eq_next h
    cases h
    have hret := State.joinBytes_trapped hwf (s.pc + 2)
    have hflags := congrArg pulledFlags (State.stackByte_trapped hwf (s.pc + 2))
    exact ⟨_, returnFromTrap_eq 6 _, hret, sub_add_cancel .., hflags.trans (pulledFlags_statusByte s.flags)⟩
  · cases (pushInstr_eq s.a 3 s).symm.trans h
    exact ⟨_, pullInstr_eq State.loadA 4 _, State.stackByte_pushed hwf s.a, sub_add_cancel ..⟩
  · cases (pushInstr_eq (pushedStatus s.flags) 3 s).symm.trans h
    have hflags := congrArg pulledFlags (State.stackByte_pushed hwf (pushedStatus s.flags))
    exact ⟨_, pullInstr_eq (fun t p => t.setFlags (pulledFlags p)) 4 _,
      hflags.trans (pulledFlags_pushedStatus s.flags), sub_add_cancel ..⟩

/-- Settles O39: a jump goes to its effective address, which the default collaborators always give; RTS pulls its own. -/
theorem jumpAndReturnResults : Obligations.JumpAndReturnResults := by
  unfold Obligations.JumpAndReturnResults
  refine fun s => ⟨fun w => ⟨rfl, jumpInstr_of_effective (o := .abs w) rfl 3⟩,
    fun w => ⟨rfl, fun e t h => jumpInstr_of_effective h 5, fun hd => ?_⟩, ?_⟩
  · obtain ⟨e, t, h⟩ := effective_answers (.ind w) hd
    exact ⟨e, t, h, jumpInstr_of_effective h 5⟩
  · rintro lo hi rfl rfl
    rw [← toNat_joinBytes, ← addr_add_one_eq_ofNat]
    exact ⟨rfl, returnInstr_eq s⟩

end

section
/-! PROOF. Stack, flag and no-operation instructions (45_stack_flags_nop.md). Each is one implied, push or pull instruction,
so its result is that of the shared operation, with the status byte and the pulled flags in the terms of the statements. -/

namespace Sys2Proof.Machine

/-- R203, R204: a pull instruction completes with what its semantics makes of the pulled byte, `PC` one further. -/
theorem pullInstr_nextPc (sem : State → Byte → State) (n : Nat) (s : State)
    (hpc : (sem { s with sp := s.sp + 1 } (stackByte s.mem (s.sp + 1))).pc = s.pc) : pullInstr sem n s =
    .next { (sem { s with sp := s.sp + 1 } (stackByte s.mem (s.sp + 1))).charge n with
      pc := BitVec.ofNat 16 (s.pc.toNat + 1) } := by
  rw [pullInstr_eq]
  exact congrArg Host.Outcome.next (State.advance_eq_nextPc (t := State.charge _ n) hpc .imp)

/-- R212, R227: the implied NOPs with their opcodes. -/
theorem impliedNop_encode_mnemonic_operand : ∀ p ∈ [(Instr.nop, (0xEA : Byte)), (.nopImp1A, 0x1A), (.nopImp3A, 0x3A),
      (.nopImp5A, 0x5A), (.nopImp7A, 0x7A), (.nopImpDA, 0xDA), (.nopImpFA, 0xFA)],
    encode p.1 = [p.2] ∧ p.1.mnemonic = .nop ∧ p.1.operand = .imp := by decide

end Sys2Proof.Machine

open Sys2Proof Sys2Proof.Machine

/-- Settles O33: each is an implied instruction, whose effect sets its one flag, or for NOP does nothing. -/
theorem flagAndNopResults : Obligations.FlagAndNopResults := by
  unfold Obligations.FlagAndNopResults
  rintro s r rfl
  refine ⟨⟨rfl, ?_, rfl, ?_, rfl, ?_, rfl, ?_, rfl, ?_, rfl, ?_, rfl, ?_⟩, fun i op hi => ?_⟩
  · exact impliedInstr_nextPc clcEffect rfl rfl
  · exact impliedInstr_nextPc secEffect rfl rfl
  · exact impliedInstr_nextPc cliEffect rfl rfl
  · exact impliedInstr_nextPc seiEffect rfl rfl
  · exact impliedInstr_nextPc cldEffect rfl rfl
  · exact impliedInstr_nextPc sedEffect rfl rfl
  · exact impliedInstr_nextPc clvEffect rfl rfl
  · obtain ⟨hop, hm, ho⟩ := impliedNop_encode_mnemonic_operand (i, op) hi
    rw [exec_eq, hm, ho]
    exact ⟨hop, impliedInstr_nextPc nopImplied rfl rfl⟩

/-- Settles O44: PHA and PHP are one push each; the pulled byte is loaded into A, or read as the six flags. -/
theorem pushAndPullResults : Obligations.PushAndPullResults := by
  unfold Obligations.PushAndPullResults
  rintro s r p rfl rfl
  rw [← pushedStatus_eq_statusByte, ← Flags.setNZ_eq_nzFlags, ← pulledFlags_eq]
  refine ⟨rfl, ?_, rfl, ?_, rfl, ?_, rfl, ?_⟩ <;> rw [exec_eq]
  · exact pushInstr_eq s.a 3 s
  · exact pushInstr_eq (pushedStatus s.flags) 3 s
  · exact pullInstr_nextPc State.loadA 4 s rfl
  · exact pullInstr_nextPc (fun t p => t.setFlags (pulledFlags p)) 4 s rfl

end

section
/-! PROOF. Undocumented opcodes (46_undocumented.md). ALR, SBX and the reading NOPs are read-type instructions, SLO and DCP
RMW-type ones; each effect is a shift or a decrement followed by a load or a compare, whose equations stand above. -/

namespace Sys2Proof.Machine

/-- R223: a byte shifted right is less than 128, so N is clear. -/
theorem State.alr_eq (s : State) (v : Byte) : s.alr v = { s with
    a := BitVec.ofNat 8 ((s.a &&& v).toNat / 2)
    flags := { s.flags with
      n := false, z := decide ((s.a &&& v).toNat / 2 = 0), c := decide ((s.a &&& v).toNat % 2 = 1) } } := by
  have hshift : lsrByte (s.a &&& v) s.flags.c =
    ⟨BitVec.ofNat 8 ((s.a &&& v).toNat / 2), decide ((s.a &&& v).toNat % 2 = 1)⟩ := shiftRight_eq (s.a &&& v) false
  have hlt := (s.a &&& v).isLt
  have hn : ¬128 ≤ (s.a &&& v).toNat / 2 := by omega
  have hmod : (s.a &&& v).toNat / 2 % 256 = (s.a &&& v).toNat / 2 := by omega
  rw [State.alr, hshift, State.loadA_eq, nzFlags_ofNat, hmod, decide_eq_false hn]
  rfl

/-- R224: the compare of R149 on A AND X, whose difference goes to X. -/
theorem State.sbx_eq (s : State) (v : Byte) :
    s.sbx v = { s with x := (s.a &&& s.x) - v, flags := compareFlags s.flags (s.a &&& s.x) v } := by
  rw [State.sbx, State.compare_eq]
  rfl

/-- R228 to R232: a NOP that is not implied is a read-type instruction. -/
theorem nopAny_of_ne_imp {o : Operand} (ho : o ≠ .imp) (s : State) : nopAny o s = readInstr o nopRead s := by
  cases o
  case imp => exact absurd rfl ho
  all_goals rfl

/-- R221: SLO is ASL in memory, then ORA. -/
theorem sloModify_eq (v : Byte) (s : State) : sloModify v s = (BitVec.ofNat 8 (2 * v.toNat), { s with
    a := s.a ||| BitVec.ofNat 8 (2 * v.toNat)
    flags := { nzFlags s.flags (s.a ||| BitVec.ofNat 8 (2 * v.toNat)) with c := decide (128 ≤ v.toNat) } }) := by
  have hshift : aslByte v s.flags.c = ⟨BitVec.ofNat 8 (2 * v.toNat), decide (128 ≤ v.toNat)⟩ := shiftLeft_eq v false
  rw [sloModify, hshift, State.loadA_eq]
  rfl

/-- R226: DCP is DEC in memory, then CMP. -/
theorem dcpModify_eq (v : Byte) (s : State) : dcpModify v s = (BitVec.ofNat 8 (v.toNat + 255),
    { s with flags := compareFlags s.flags s.a (BitVec.ofNat 8 (v.toNat + 255)) }) := by
  rw [dcpModify, sub_one_eq_ofNat, State.compare_eq]

end Sys2Proof.Machine

open Sys2Proof Sys2Proof.Machine

/-- Settles O37: each is an RMW-type instruction, whose write answers unless the spec or a collaborator refuses it. -/
theorem sloAndDcpResults : Obligations.SloAndDcpResults := by
  unfold Obligations.SloAndDcpResults
  intro i s t w a v r h hi
  have ht := takes_operand i
  rw [← h.frame.flags, ← h.frame.a] at hi
  have hx : exec i s = andThen (busWrite a r w) fun u => .next { u with pc := nextPc s i.operand } := by
    rw [exec_eq]
    rcases hi with ⟨hm, rfl, rfl⟩ | ⟨hm, rfl, rfl⟩ <;> rw [hm] at ht ⊢
    · exact modifyAny_nextPc ht h (fun _ _ => rfl) (fun _ => rfl) (sloModify_eq v t) rfl
    · exact modifyAny_nextPc ht h (fun _ _ => rfl) (fun _ => rfl) (dcpModify_eq v t) rfl
  have hpar : w.params = s.params := by
    rcases hi with ⟨-, -, rfl⟩ | ⟨-, -, rfl⟩ <;> exact h.frame.params
  rw [hx]
  refine ⟨fun hs hc => ?_, ?_⟩
  · obtain ⟨u, hu⟩ := busWrite_answers hs ((State.mayRefuse_congr hpar a).trans hc)
    exact ⟨u, hu, by rw [hu, andThen_next]⟩
  · cases busWrite a r w <;> rfl

/-- Settles O30: each is a read-type instruction, whose effect discards the byte. -/
theorem readingNopResults : Obligations.ReadingNopResults := by
  unfold Obligations.ReadingNopResults
  intro i s hm ho
  refine ⟨fun hd => State.readsOperand_answers hd i.operand, fun v t h => ?_⟩
  have ht := takes_operand i
  rw [hm] at ht
  have hread : i.operand.isRead = true := ((Bool.or_eq_true _ _).mp ht).resolve_right fun hi => ho (eq_of_beq hi)
  have hx : exec i s = readInstr i.operand nopRead s := by
    rw [exec_eq, hm]
    exact nopAny_of_ne_imp ho s
  rw [hx]
  exact readInstr_nextPc hread h rfl rfl

/-- Settles O29: each is a read-type instruction on its immediate byte, 2 cycles on. -/
theorem alrAndSbxResults : Obligations.AlrAndSbxResults := by
  unfold Obligations.AlrAndSbxResults
  intro s v
  have h : s.ReadsOperand (.imm v) v { s with clock := s.clockAfter 2 } := ⟨rfl, rfl⟩
  exact ⟨rfl, readInstr_nextPc rfl h (State.alr_eq _ v) rfl, rfl, readInstr_nextPc rfl h (State.sbx_eq _ v) rfl⟩

end

section
/-! PROOF. The TIA registers (47_tia_registers.md). Every access catches up, does what its register says and runs the audio
hook; most registers act on the TIA's own state only, and for these `Tia.write` says the whole effect. -/

namespace Sys2Proof.Machine

/-! Reads (R262, R263). -/

theorem busRead_tiaPort {addr : Addr} {reg port : Nat} (h : route addr = some (.tia reg port)) (s : State) :
    busRead addr s = .next (tiaRead port s) := by
  rw [busRead, h]

/-- R263: the bytes of the read ports 0 to 7, in the order of R262. -/
def Latches.portBytes (c : Latches) : List Byte :=
  [c.assigned.cxmp.zero, c.assigned.cxmp.one, c.assigned.cxpfb.zero, c.assigned.cxpfb.one, c.assigned.cxmfb.zero,
    c.assigned.cxmfb.one, c.assigned.cxblpf, c.assigned.cxppmm]

theorem Latches.port_of_lt (c : Latches) {port : Nat} (h : port < 8) :
    c.port (tiaPortOf port) = some (c.portBytes.getD port 0) := by
  interval_cases port <;> rfl

theorem tiaPortOf_of_le {port : Nat} (h : 8 ≤ port) : tiaPortOf port = .oracle := by
  obtain ⟨k, rfl⟩ := Nat.exists_eq_add_of_le' h
  rfl

theorem tiaRead_of_lt {port : Nat} (h : port < 8) (s : State) : tiaRead port s =
    ((s.tia.catchUp s.params s.clock).latch.portBytes.getD port 0, s.tiaWritten (s.tia.catchUp s.params s.clock)) := by
  rw [tiaRead, Latches.port_of_lt _ h]
  rfl

theorem tiaRead_of_le {port : Nat} (h : 8 ≤ port) (s : State) : tiaRead port s =
    (Config.freeByte s.draws, { s.tiaWritten (s.tia.catchUp s.params s.clock) with draws := s.draws + 1 }) := by
  rw [tiaRead, tiaPortOf_of_le h]
  rfl

/-! Writes (R241 to R261). -/

section
variable {addr : Addr} {reg port : Nat} {v : Byte} {s : State}

theorem busWrite_tiaReg {r : TiaReg} (hreg : tiaRegOf reg = some r) (h : route addr = some (.tia reg port)) :
    busWrite addr v s = andThen (writeReg r v s.catchUp) fun t => .next t.audioStep := by
  simp only [busWrite, h, tiaWrite, hreg]

theorem busWrite_noTiaReg (hreg : tiaRegOf reg = none) (h : route addr = some (.tia reg port)) :
    busWrite addr v s = .next (s.tiaWritten (s.tia.catchUp s.params s.clock)) := by
  simp only [busWrite, h, tiaWrite, hreg]
  rfl

/-- The registers for which a write changes the TIA's own state and nothing else: all but VSYNC, VBLANK, WSYNC, RSYNC,
RESMPn and the audio ports. -/
def TiaReg.actsOnTia : TiaReg → Bool
  | .vsync | .vblank | .wsync | .rsync | .resmp _ | .audio _ => false
  | _ => true

theorem writeReg_of_actsOnTia {r : TiaReg} (hr : r.actsOnTia = true) :
    writeReg r v s = .next (s.setTia (s.tia.write s.params s.clock v r)) := by
  cases r
  case vsync | vblank | wsync | rsync | resmp | audio => cases hr
  all_goals rfl

theorem busWrite_actsOnTia (r : TiaReg) (hreg : tiaRegOf reg = some r) (hr : r.actsOnTia = true)
    (h : route addr = some (.tia reg port)) :
    busWrite addr v s = .next (s.tiaWritten ((s.tia.catchUp s.params s.clock).write s.params s.clock v r)) := by
  rw [busWrite_tiaReg hreg h, writeReg_of_actsOnTia hr]
  rfl

theorem bitOf_one (v : Byte) : bitOf v 1 = decide (2 ≤ v.toNat % 4) := bitOf_eq v 1

/-- R260: a write to RESMPn with bit 1 set is refused. -/
theorem busWrite_resmp_refused {n : Side} (hreg : tiaRegOf reg = some (.resmp n))
    (h : route addr = some (.tia reg port)) (hv : 2 ≤ v.toNat % 4) : busWrite addr v s = .refused (.resmpLock n) := by
  have hb : bitOf v 1 = true := by rw [bitOf_one, decide_eq_true hv]
  rw [busWrite_tiaReg hreg h, writeReg, if_pos hb]
  rfl

/-- R260: a write to RESMPn with bit 1 clear keeps the byte. -/
theorem busWrite_resmp {n : Side} (hreg : tiaRegOf reg = some (.resmp n)) (h : route addr = some (.tia reg port))
    (hv : v.toNat % 4 < 2) : busWrite addr v s =
      .next (s.tiaWritten ((s.tia.catchUp s.params s.clock).write s.params s.clock v (.resmp n))) := by
  have hb : ¬bitOf v 1 = true := by rw [bitOf_one, decide_eq_true_eq]; omega
  rw [busWrite_tiaReg hreg h, writeReg, if_neg hb]
  rfl

end

/-! The register map (R241). -/

/-- The number of an object, by which its register lies after that of object 0. -/
def Side.number : Side → Nat
  | .zero => 0
  | .one => 1

/-- R241: the registers that stand in pairs, one for each object. -/
theorem tiaRegOf_paired (n : Side) :
    tiaRegOf (0x04 + n.number) = some (.nusiz n) ∧ tiaRegOf (0x06 + n.number) = some (.colup n) ∧
    tiaRegOf (0x0B + n.number) = some (.refp n) ∧ tiaRegOf (0x1D + n.number) = some (.enam n) ∧
    tiaRegOf (0x20 + n.number) = some (.hmp n) ∧ tiaRegOf (0x22 + n.number) = some (.hmm n) ∧
    tiaRegOf (0x25 + n.number) = some (.vdelp n) ∧ tiaRegOf (0x28 + n.number) = some (.resmp n) := by
  cases n <;> decide

/-- R241, R258: the six audio ports. -/
theorem tiaRegOf_audio : ∀ k < 6, tiaRegOf (0x15 + k) =
    some (.audio ([AudioPort.ctrl0, .ctrl1, .freq0, .freq1, .vol0, .vol1].getD k .ctrl0)) := by decide

theorem tiaRegOf_of_le {reg : Nat} (h : 0x2D ≤ reg) : tiaRegOf reg = none := List.getElem?_eq_none h

end Sys2Proof.Machine

open Sys2Proof Sys2Proof.Machine

/-- Settles O16: the eight collision ports are the assigned latch bits, and every further port is a draw. -/
theorem tiaReadsReturnLatches : Obligations.TiaReadsReturnLatches := by
  unfold Obligations.TiaReadsReturnLatches
  rintro s addr reg port c hr rfl
  rw [busRead_tiaPort hr]
  exact ⟨fun hp => congrArg Host.Outcome.next (tiaRead_of_lt hp s), fun hp => congrArg Host.Outcome.next (tiaRead_of_le hp s)⟩

/-- Settles O18: a bus write answers, is one of the refused writes, or is a collaborator's `InvalidAddress`. -/
theorem refusedWritesAreRefused : Obligations.RefusedWritesAreRefused := by
  unfold Obligations.RefusedWritesAreRefused
  refine fun s addr v => ⟨busWrite_answers, fun hw => ?_, fun port => ⟨busWrite_tiaReg (r := .rsync) rfl,
    busWrite_resmp_refused rfl, busWrite_resmp_refused rfl⟩⟩
  rcases busWrite_cases addr v s with h | ⟨hr, -⟩ | ⟨-, hm, h⟩
  · exact .inl h
  · rw [hw] at hr
    cases hr
  · exact .inr ⟨hm, h⟩

/-- Settles O55: `Tia.write` of each register after the catch-up; VBLANK and the audio ports emit an event as well. -/
theorem tiaRegisterWrites : Obligations.TiaRegisterWrites := by
  unfold Obligations.TiaRegisterWrites
  rintro s addr port v t rfl
  refine ⟨busWrite_tiaReg (r := .vblank) rfl, fun n k hk => ?_,
    busWrite_actsOnTia .colupf rfl rfl, busWrite_actsOnTia .colubk rfl rfl, busWrite_actsOnTia .ctrlpf rfl rfl,
    busWrite_actsOnTia .pf0 rfl rfl, busWrite_actsOnTia .pf1 rfl rfl, busWrite_actsOnTia .pf2 rfl rfl,
    fun k hk => busWrite_tiaReg (tiaRegOf_audio k hk),
    busWrite_actsOnTia (.grp .zero) rfl rfl, busWrite_actsOnTia (.grp .one) rfl rfl,
    busWrite_actsOnTia .enabl rfl rfl, busWrite_actsOnTia .hmbl rfl rfl, busWrite_actsOnTia .vdelbl rfl rfl,
    busWrite_actsOnTia .hmclr rfl rfl, busWrite_actsOnTia .cxclr rfl rfl,
    fun reg hreg _ => busWrite_noTiaReg (tiaRegOf_of_le hreg)⟩
  obtain rfl : k = n.number := by cases n <;> exact hk
  obtain ⟨hnusiz, hcolup, hrefp, henam, hhmp, hhmm, hvdelp, hresmp⟩ := tiaRegOf_paired n
  exact ⟨busWrite_actsOnTia _ hnusiz rfl, busWrite_actsOnTia _ hcolup rfl, busWrite_actsOnTia _ hrefp rfl,
    busWrite_actsOnTia _ henam rfl, busWrite_actsOnTia _ hhmp rfl, busWrite_actsOnTia _ hhmm rfl,
    busWrite_actsOnTia _ hvdelp rfl, busWrite_resmp hresmp⟩

end

section
/-! PROOF. How an operation can end (60_exceptions.md). `State.Sound` says of one operation that it answers a state with the
invariant, or stops by one of the named stops. A sequence of sound operations is sound, so every instruction is, and the
invariant of a step (R282) and the list of stops (R324) are read off from that. -/

namespace Sys2Proof.Machine

/-- `t` has the launch parameters of `s`, and the invariant if `s` has it. -/
structure State.Keeps (s t : State) : Prop where
  params : t.params = s.params
  inv : s.Inv → t.Inv

namespace State.Keeps

variable {s t u : State}

theorem refl (s : State) : s.Keeps s := ⟨rfl, id⟩

theorem trans (h : s.Keeps t) (h' : t.Keeps u) : s.Keeps u := ⟨h'.params.trans h.params, h'.inv ∘ h.inv⟩

/-- The CPU's own work reaches neither storage nor the TIA, and the Clock only goes on (R282). -/
theorem cpu (h : s.Keeps t) (hf : t.CpuFrame u) (hc : t.clock ≤ u.clock) : s.Keeps u := by
  have hu : t.Inv → u.Inv := fun hi => by
    rw [hf]
    exact ⟨hi.memory, hi.tia, hi.beam.later hc⟩
  exact h.trans ⟨by rw [hf], hu⟩

theorem charge (h : s.Keeps t) (n : Nat) : s.Keeps (t.charge n) := h.cpu rfl (t.le_clockAfter n)

theorem setPc (h : s.Keeps t) (p : Addr) : s.Keeps (t.setPc p) := h.cpu rfl (Nat.le_refl _)

theorem advance (h : s.Keeps t) (n : Nat) : s.Keeps (t.advance n) := h.setPc _

theorem setSp (h : s.Keeps t) (v : Byte) : s.Keeps (t.setSp v) := h.cpu rfl (Nat.le_refl _)

theorem setFlags (h : s.Keeps t) (f : Flags) : s.Keeps (t.setFlags f) := h.cpu rfl (Nat.le_refl _)

theorem setA (h : s.Keeps t) (v : Byte) : s.Keeps (t.setA v) := h.cpu rfl (Nat.le_refl _)

end State.Keeps

theorem cpuEffect_keeps (m : Mnemonic) (o : Operand) (v : Byte) (u : State) : u.Keeps (cpuEffect m o v u) :=
  (State.Keeps.refl u).cpu (cpuEffect_cpuFrame m o v u) (cpuEffect_clock m o v u).ge

/-- From `s` the operation answers, in a state that keeps what `s` has; or it is one of the writes that R245 and R260 refuse;
or it is `InvalidAddress` for an access that a collaborator may refuse (R48, R322). -/
def State.Sound {α : Type} (s : State) (stateOf : α → State) : Result α → Prop
  | .next a => s.Keeps (stateOf a)
  | .refused r => r = .rsyncWrite ∨ ∃ n, r = .resmpLock n
  | .fault f => ∃ a, f = .invalidAddress a ∧ s.mayRefuse a = true

variable {α β : Type} {stateOf : α → State} {stateOf' : β → State} {s t : State} {r : Result α}

/-- An operation that is sound from a later state is sound from `s`. -/
theorem State.Keeps.sound (h : s.Keeps t) (hr : t.Sound stateOf r) : s.Sound stateOf r := by
  cases r with
  | next a => exact h.trans hr
  | refused e => exact hr
  | fault f =>
    obtain ⟨a, hf, ha⟩ := hr
    exact ⟨a, hf, State.mayRefuse_congr h.params a ▸ ha⟩

/-- R105, R327: a sequence of sound operations is sound. -/
theorem State.Sound.andThen {f : α → Result β} (hr : s.Sound stateOf r)
    (hf : ∀ a, s.Keeps (stateOf a) → s.Sound stateOf' (f a)) : s.Sound stateOf' (Machine.andThen r f) := by
  cases r with
  | next a => exact hf a hr
  | refused e => exact hr
  | fault f => exact hr

theorem State.Sound.cases {r : Result State} (h : s.Sound id r) : (∃ t, r = .next t) ∨ r = .refused .rsyncWrite ∨
    (∃ n, r = .refused (.resmpLock n)) ∨ s.AccessRefused r := by
  cases r with
  | next t => exact .inl ⟨t, rfl⟩
  | refused e =>
    rcases h with rfl | ⟨n, rfl⟩
    · exact .inr (.inl rfl)
    · exact .inr (.inr (.inl ⟨n, rfl⟩))
  | fault f =>
    obtain ⟨a, rfl, ha⟩ := h
    exact .inr (.inr (.inr ⟨a, rfl, ha⟩))

/-! The accesses. -/

section
variable (addr : Addr) (v : Byte) (s : State)

theorem busRead_sound : s.Sound Prod.snd (busRead addr s) := by
  rcases busRead_cases addr s with ⟨v, t, h, hf⟩ | ⟨h, hm⟩ <;> rw [h]
  · exact ⟨hf.params, fun hi => hi.busRead h⟩
  · exact ⟨addr, rfl, hm⟩

theorem busWrite_sound : s.Sound id (busWrite addr v s) := by
  rcases busWrite_cases addr v s with ⟨t, h⟩ | ⟨-, h | ⟨n, h⟩⟩ | ⟨-, hm, h⟩ <;> rw [h]
  · exact ⟨by rw [id, (busWrite_frame h).1], fun hi => hi.busWrite h⟩
  · exact .inl rfl
  · exact .inr ⟨n, rfl⟩
  · exact ⟨addr, rfl, hm⟩

/-- Two bus reads one after the other. -/
theorem busReadPair_sound (a b : Addr) (f : Byte → Byte → α) : s.Sound Prod.snd
    (andThen (busRead a s) fun lo => andThen (busRead b lo.2) fun hi => .next (f lo.1 hi.1, hi.2)) :=
  (busRead_sound a s).andThen fun lo hlo => (hlo.sound (busRead_sound b lo.2)).andThen fun _ hhi => hhi

theorem push_sound : s.Sound id (push v s) := (busWrite_sound _ v s).andThen fun _ h => h.setSp _

theorem pushAddr_sound (ret : Addr) : s.Sound id (pushAddr ret s) :=
  (push_sound _ s).andThen fun _ h => h.sound (push_sound _ _)

theorem pull_sound : s.Sound Prod.snd (pull s) := ((State.Keeps.refl s).setSp _).sound (busRead_sound _ _)

theorem pullAddr_sound : s.Sound Prod.snd (pullAddr s) :=
  (pull_sound s).andThen fun lo hlo => (hlo.sound (pull_sound lo.2)).andThen fun _ hhi => hhi

end

/-! The shared operations (R105, R111). -/

section
variable (o : Operand) (s : State) {sem : State → Byte → State} {modify : Modify}

theorem effective_sound : s.Sound Prod.snd (effective o s) := by
  cases o with
  | ind w | izx z | izy z => exact (busReadPair_sound s _ _ joinBytes).andThen fun _ h => h
  | _ => exact .refl s

theorem readOperand_sound (ea : Addr) : s.Sound Prod.snd (readOperand o ea s) := by
  cases o with
  | imm v => exact .refl s
  | _ => exact busRead_sound ea s

theorem readInstr_sound (hsem : ∀ (v : Byte) (u : State), u.Keeps (sem u v)) : s.Sound id (readInstr o sem s) := by
  have hbyte : s.Sound Prod.snd (operandByte o s) := (effective_sound o s).andThen fun e he =>
    ((he.charge _).sound (readOperand_sound o _ e.1.addr)).andThen fun _ h => h.charge _
  exact hbyte.andThen fun _ h => ((h.trans (hsem _ _)).charge _).advance _

theorem storeInstr_sound (value : State → Byte) : s.Sound id (storeInstr o value s) := by
  have htarget : s.Sound Prod.snd (storeTarget o s) :=
    (effective_sound o s).andThen fun _ he => ((he.charge _).charge _).charge _
  exact htarget.andThen fun _ h => (h.sound (busWrite_sound _ _ _)).andThen fun _ h => h.advance _

theorem modifyInstr_sound (hsem : ∀ (v : Byte) (u : State), u.Keeps (modify v u).2) :
    s.Sound id (modifyInstr o modify s) := by
  have htarget : s.Sound Modified.state (modifyTarget o modify s) := (effective_sound o s).andThen fun _ he =>
    ((he.charge _).sound (busRead_sound _ _)).andThen fun _ h => ((h.charge _).trans (hsem _ _)).charge _
  exact htarget.andThen fun _ h => (h.sound (busWrite_sound _ _ _)).andThen fun _ h => h.advance _

theorem modifyAny_sound (hsem : ∀ (v : Byte) (u : State), u.Keeps (modify v u).2) : s.Sound id (modifyAny o modify s) := by
  cases o with
  | acc => exact (((((State.Keeps.refl s).charge _).trans (hsem _ _)).charge _).setA _).advance 0
  | _ => exact modifyInstr_sound _ s hsem

theorem impliedInstr_sound {effect : State → State} (heffect : ∀ u : State, u.Keeps (effect u)) :
    s.Sound id (impliedInstr effect s) :=
  (((((State.Keeps.refl s).charge _).charge _).trans (heffect _)).charge _).advance 0

theorem nopAny_sound : s.Sound id (nopAny o s) := by
  cases o with
  | imp => exact impliedInstr_sound s .refl
  | _ => exact readInstr_sound _ s fun _ => .refl

theorem branchInstr_sound (c : Bool) (d : Byte) : s.Sound id (branchInstr c d s) := by
  unfold branchInstr
  split <;> exact ((State.Keeps.refl s).charge _).setPc _

theorem jumpInstr_sound (cycles : Nat) : s.Sound id (jumpInstr o cycles s) :=
  (effective_sound o s).andThen fun _ h => (h.charge cycles).setPc _

theorem pushInstr_sound (v : Byte) (cycles : Nat) : s.Sound id (pushInstr v cycles s) :=
  (push_sound v s).andThen fun _ h => (h.charge cycles).advance 0

theorem pullInstr_sound (hsem : ∀ (v : Byte) (u : State), u.Keeps (sem u v)) (cycles : Nat) :
    s.Sound id (pullInstr sem cycles s) :=
  (pull_sound s).andThen fun _ h => ((h.trans (hsem _ _)).charge cycles).advance 0

theorem callInstr_sound (w : Addr) : s.Sound id (callInstr w s) :=
  (pushAddr_sound s _).andThen fun _ h => (h.charge 6).setPc _

theorem returnInstr_sound : s.Sound id (returnInstr s) := (pullAddr_sound s).andThen fun _ h => (h.charge 6).setPc _

theorem takeTrap_sound (ret vector : Addr) (cycles : Nat) : s.Sound id (takeTrap ret vector cycles s) :=
  (pushAddr_sound s ret).andThen fun _ h => (h.sound (push_sound _ _)).andThen fun _ h =>
    ((h.setFlags _).sound (busReadPair_sound _ _ _ joinBytes)).andThen fun _ h => (h.charge cycles).setPc _

theorem returnFromTrap_sound (cycles : Nat) : s.Sound id (returnFromTrap cycles s) :=
  (pull_sound s).andThen fun _ h => ((h.setFlags _).sound (pullAddr_sound _)).andThen fun _ h =>
    (h.charge cycles).setPc _

end

/-! Instructions and steps. -/

theorem exec_sound (i : Instr) (s : State) : s.Sound id (exec i s) := by
  have hk := cpuEffect_keeps i.mnemonic i.operand
  rw [exec_eq]
  cases hm : i.mnemonic <;> rw [hm] at hk
  case adc | alr | and | bit | cmp | cpx | cpy | eor | lax | lda | ldx | ldy | ora | sbc | sbx =>
    exact readInstr_sound _ s hk
  case asl | lsr | rol | ror | dec | inc | dcp | slo =>
    exact modifyAny_sound _ s fun _ u => (State.Keeps.refl u).cpu rfl (Nat.le_refl _)
  case sta | stx | sty | sax => exact storeInstr_sound _ s _
  case bcc | bcs | beq | bmi | bne | bpl | bvc | bvs => exact branchInstr_sound s _ _
  case jmp => exact jumpInstr_sound _ s _
  case nop => exact nopAny_sound _ s
  case pha | php => exact pushInstr_sound s _ _
  case pla => exact pullInstr_sound s (sem := State.loadA) (fun _ u => (State.Keeps.refl u).cpu rfl (Nat.le_refl _)) _
  case plp =>
    exact pullInstr_sound s (sem := fun t p => t.setFlags (pulledFlags p)) (fun _ u => (State.Keeps.refl u).setFlags _) _
  case jsr => exact callInstr_sound s _
  case rts => exact returnInstr_sound s
  case brk => exact takeTrap_sound s _ _ _
  case rti => exact returnFromTrap_sound s _
  all_goals exact impliedInstr_sound s (hk 0)

theorem readBytes_sound : ∀ (n : Nat) (addr : Addr) (s : State), s.Sound Prod.snd (readBytes n addr s)
  | 0, _, s => .refl s
  | n + 1, addr, s => (busRead_sound addr s).andThen fun _ hb =>
      (hb.sound (readBytes_sound n _ _)).andThen fun _ h => h

/-- R105, R321: the fetch raises `UnimplementedOpcode` at the `PC` of the start, or is sound. -/
theorem fetch_cases (s : State) :
    (∃ op, fetch s = .fault (.unimplementedOpcode op s.pc)) ∨ s.Sound Prod.snd (fetch s) := by
  have hop := busRead_sound s.pc s
  unfold fetch
  generalize busRead s.pc s = r at hop ⊢
  cases r with
  | fault f => exact .inr hop
  | refused r => exact .inr hop
  | next op =>
    simp only [andThen_next]
    split
    · exact .inl ⟨_, rfl⟩
    next slot _ =>
      have hbytes := State.Keeps.sound hop (readBytes_sound slot.size (s.pc + 1) op.2)
      generalize readBytes slot.size (s.pc + 1) op.2 = r at hbytes ⊢
      cases r with
      | fault f => exact .inr hbytes
      | refused r => exact .inr hbytes
      | next operands =>
        simp only [andThen_next]
        split
        · exact .inr hbytes
        · exact .inl ⟨_, rfl⟩

/-- R105, R321, R358: a step from a state without a fault raises `UnimplementedOpcode` at the `PC` of the start, or ends the
run, or is sound. -/
theorem step_cases {s : State} (hs : s.fault = none) : (∃ op, step s = .fault (.unimplementedOpcode op s.pc)) ∨
    step s = .refused .runEnded ∨ s.Sound id (step s) := by
  cases he : s.ended with
  | true => exact .inr (.inl (step_of_ended hs he))
  | false =>
    rw [step_of_running ⟨hs, he⟩]
    rcases fetch_cases s with ⟨op, h⟩ | h
    · exact .inl ⟨op, by rw [h, andThen_fault]⟩
    · exact .inr (.inr (h.andThen fun f hf => hf.sound (exec_sound f.1 f.2)))

end Sys2Proof.Machine

open Sys2Proof Sys2Proof.Machine

/-- Settles O9: a step that completes is sound, and so keeps the invariant. -/
theorem stepKeepsInvariant : Obligations.StepKeepsInvariant := by
  unfold Obligations.StepKeepsInvariant
  intro s t hi h
  cases hs : s.fault with
  | some f => rw [step_of_fault hs] at h; cases h
  | none =>
    rcases step_cases hs with ⟨op, h'⟩ | h' | hk
    · rw [h] at h'; cases h'
    · rw [h] at h'; cases h'
    · rw [h] at hk
      exact hk.inv hi

/-- Settles O7: instructions are sound, and the default collaborators refuse no access. -/
theorem stopsAreOnlyTheNamedOnes : Obligations.StopsAreOnlyTheNamedOnes := by
  unfold Obligations.StopsAreOnlyTheNamedOnes
  refine ⟨fun i s => (exec_sound i s).cases, fun i s f hd h => ?_, fun s f hs h => ?_⟩
  · have hx := exec_sound i s
    rw [h] at hx
    obtain ⟨a, -, ha⟩ := hx
    rw [hd.not_mayRefuse a] at ha
    cases ha
  · rcases step_cases hs with ⟨op, h'⟩ | h' | hk
    · rw [h] at h'
      cases h'
      exact .inl ⟨op, rfl⟩
    · rw [h] at h'; cases h'
    · rw [h] at hk
      exact .inr hk

end

section
/-! PROOF. The scan catch-up (48_tia_video_timing.md, R281 to R287): one tick in plain arithmetic, the catch-up as its
iteration over the Clock, and from that LineState and the Display after any number of ticks. -/

namespace Sys2Proof.Machine

namespace Tia

variable {p : Params} {t : Tia} {c d now : Nat}

/-! One tick (R284). -/

/-- R284: what one tick does, by its beam position. -/
theorem tick_eq (p : Params) (t : Tia) (c : Nat) : t.tick p c = { t with
    line := if t.hpos c = 0 then t.snapshot else t.line
    latch := if hblank ≤ t.hpos c then t.latchAt (t.hpos c - hblank) else t.latch
    display := if hblank ≤ t.hpos c then
        Display.paint p t.display (t.lineOf c) (t.hpos c - hblank) (t.colourAt p (t.hpos c - hblank))
      else t.display } := by
  unfold tick visibleTick beginLine
  by_cases h0 : t.hpos c = 0
  · have hb : ¬hblank ≤ t.hpos c := by rw [h0]; decide
    have hb' : ¬hblank ≤ ({ t with line := t.snapshot } : Tia).hpos c := hb
    rw [if_pos h0, if_neg hb', if_neg hb, if_neg hb, if_pos h0]
  · rw [if_neg h0, if_neg h0]
    split <;> rfl

theorem tick_line (p : Params) (t : Tia) (c : Nat) :
    (t.tick p c).line = if t.hpos c = 0 then t.snapshot else t.line := by rw [tick_eq]

theorem tick_display (p : Params) (t : Tia) (c : Nat) : (t.tick p c).display = if hblank ≤ t.hpos c then
      Display.paint p t.display (t.lineOf c) (t.hpos c - hblank) (t.colourAt p (t.hpos c - hblank))
    else t.display := by rw [tick_eq]

/-- `lastUpdate` has no part in a tick. -/
theorem tick_setLastUpdate (p : Params) (t : Tia) (c n : Nat) :
    ({ t with lastUpdate := n } : Tia).tick p c = { t.tick p c with lastUpdate := n } := by
  rw [tick_eq, tick_eq]
  rfl

theorem ticks_setLastUpdate (p : Params) (k n : Nat) : ∀ (t : Tia) (c : Nat),
    ({ t with lastUpdate := n } : Tia).ticks p k c = { t.ticks p k c with lastUpdate := n } := by
  induction k with
  | zero => exact fun _ _ => rfl
  | succ k ih => exact fun t c => by simp only [ticks, tick_setLastUpdate, ih]

/-! The catch-up as an iteration. -/

/-- R284: no tick lies before the last update. -/
theorem catchUp_of_le (p : Params) (h : now ≤ t.lastUpdate) : t.catchUp p now = { t with lastUpdate := now } := by
  rw [catchUp, Nat.sub_eq_zero_of_le h]
  rfl

theorem catchUp_self (p : Params) (t : Tia) : t.catchUp p t.lastUpdate = t := catchUp_of_le p (Nat.le_refl _)

/-- R281: catching up in two parts. -/
theorem catchUp_catchUp (p : Params) (hc : t.lastUpdate ≤ c) (hd : c ≤ d) :
    (t.catchUp p c).catchUp p d = t.catchUp p d := by
  have hsum : d - t.lastUpdate = (c - t.lastUpdate) + (d - c) := by omega
  have hstart : t.lastUpdate + (c - t.lastUpdate) = c := by omega
  rw [catchUp, catchUp_lastUpdate]
  simp only [catchUp, ticks_setLastUpdate, hsum, ticks_add, hstart]

/-- R284: catching up one Clock tick further. -/
theorem catchUp_succ (p : Params) (hc : t.lastUpdate ≤ c) :
    t.catchUp p (c + 1) = { (t.catchUp p c).tick p c with lastUpdate := c + 1 } := by
  rw [← catchUp_catchUp p hc (Nat.le_add_right c 1), catchUp, catchUp_lastUpdate, Nat.add_sub_cancel_left]
  rfl

/-! What the catch-up leaves unchanged. -/

section
variable (p : Params) (t : Tia) (c n : Nat)

@[simp] theorem catchUp_vblank : (t.catchUp p c).vblank = t.vblank := by rw [sameRegs_catchUp p c t]
@[simp] theorem catchUp_snapshot : (t.catchUp p c).snapshot = t.snapshot := by rw [sameRegs_catchUp p c t]; rfl
@[simp] theorem catchUp_hits : (t.catchUp p c).hits n = t.hits n := by rw [sameRegs_catchUp p c t]; rfl
@[simp] theorem catchUp_hpos : (t.catchUp p c).hpos n = t.hpos n := by rw [hpos, hpos, catchUp_screenStart]

end

/-! LineState (R285). -/

theorem catchUp_line_of_exists (p : Params) (h : ∃ c, t.lastUpdate ≤ c ∧ c < now ∧ t.hpos c = 0) :
    (t.catchUp p now).line = t.snapshot := by
  obtain ⟨c, hc, hnow, h0⟩ := h
  induction now, hnow using Nat.le_induction with
  | base => simp [catchUp_succ p hc, tick_line, h0]
  | succ now hnow ih =>
    rw [catchUp_succ p (by omega), tick_line, ih, catchUp_snapshot, ite_self]

theorem catchUp_line_of_forall (p : Params) (h : ∀ c, t.lastUpdate ≤ c → c < now → t.hpos c ≠ 0) :
    (t.catchUp p now).line = t.line := by
  rcases Nat.le_total now t.lastUpdate with hnow | hnow
  · rw [catchUp_of_le p hnow]
  induction now, hnow using Nat.le_induction with
  | base => rw [catchUp_self]
  | succ now hnow ih =>
    have h0 := h now hnow (Nat.lt_succ_self now)
    rw [catchUp_succ p hnow, tick_line, catchUp_hpos, if_neg h0]
    exact ih fun c hc hlt => h c hc (Nat.lt_succ_of_lt hlt)

/-! The Display (R283, R287). -/

/-- The tick at which the beam is at column `x` of row `l` (R280). -/
def pixelTick (t : Tia) (l x : Nat) : Nat := t.screenStart + l * horizontalTicks + hblank + x

section
variable {l x : Nat}

theorem beam_pixelTick (t : Tia) (l : Nat) (hx : x < frameWidth) :
    t.hpos (t.pixelTick l x) = hblank + x ∧ t.lineOf (t.pixelTick l x) = l := by
  simp only [hpos, lineOf, pixelTick, frameWidth, horizontalTicks, hblank] at hx ⊢
  omega

/-- The Display cell a visible tick paints is that of no other tick. -/
theorem eq_pixelTick_of_cell_eq (hs : t.screenStart ≤ c) (hh : hblank ≤ t.hpos c) (hx : x < frameWidth)
    (hcell : l * frameWidth + x = t.lineOf c * frameWidth + (t.hpos c - hblank)) : c = t.pixelTick l x := by
  simp only [hpos, lineOf, pixelTick, frameWidth, horizontalTicks, hblank] at *
  omega

/-- R284: the tick of a pixel paints it. -/
theorem read_tick_pixelTick (hl : l < p.frameHeight) (hx : x < frameWidth) :
    Display.read (t.tick p (t.pixelTick l x)).display (l * frameWidth + x) = some (t.colourAt p x) := by
  obtain ⟨hh, hline⟩ := t.beam_pixelTick l hx
  rw [tick_display, hh, hline, if_pos (Nat.le_add_right _ _), Display.paint, if_pos hl, Nat.add_sub_cancel_left,
    Display.read_write_self]

/-- R284: no other tick does. -/
theorem read_tick_of_ne (hs : t.screenStart ≤ c) (hx : x < frameWidth) (hc : c ≠ t.pixelTick l x) :
    Display.read (t.tick p c).display (l * frameWidth + x) = Display.read t.display (l * frameWidth + x) := by
  rw [tick_display]
  split
  next hh =>
    rw [Display.paint]
    split
    · exact Display.read_write_ne (fun hcell => hc (eq_pixelTick_of_cell_eq hs hh hx hcell)) _ _
    · rfl
  next => rfl

@[simp] theorem catchUp_pixelTick (p : Params) (t : Tia) (c l x : Nat) :
    (t.catchUp p c).pixelTick l x = t.pixelTick l x := by
  rw [pixelTick, pixelTick, catchUp_screenStart]

theorem catchUp_colourAt (p : Params) (t : Tia) (c x : Nat) : (t.catchUp p c).colourAt p x =
    if t.blanked then p.blankColour else composite (t.hits x) (t.catchUp p c).line := by
  rw [colourAt, blanked, catchUp_vblank, catchUp_hits, blanked]

/-- R281: the catch-up leaves a pixel whose tick it does not process. -/
theorem read_catchUp_of_not_passed (hs : t.screenStart ≤ t.lastUpdate) (hnow : t.lastUpdate ≤ now) (hx : x < frameWidth)
    (h : ¬(t.lastUpdate ≤ t.pixelTick l x ∧ t.pixelTick l x < now)) :
    Display.read (t.catchUp p now).display (l * frameWidth + x) = Display.read t.display (l * frameWidth + x) := by
  induction now, hnow using Nat.le_induction with
  | base => rw [catchUp_self]
  | succ now hnow ih =>
    have hs' : (t.catchUp p now).screenStart ≤ now := by rw [catchUp_screenStart]; exact hs.trans hnow
    have hne : now ≠ (t.catchUp p now).pixelTick l x := by rw [catchUp_pixelTick]; omega
    rw [catchUp_succ p hnow]
    exact (read_tick_of_ne hs' hx hne).trans (ih (by omega))

/-- R281: the catch-up paints a pixel whose tick it processes, in the colour of that tick. -/
theorem read_catchUp_of_passed (hs : t.screenStart ≤ t.lastUpdate) (hl : l < p.frameHeight) (hx : x < frameWidth)
    (hc : t.lastUpdate ≤ t.pixelTick l x) (hnow : t.pixelTick l x < now) :
    Display.read (t.catchUp p now).display (l * frameWidth + x) =
      some ((t.catchUp p (t.pixelTick l x)).colourAt p x) := by
  have hpaint := read_tick_pixelTick (t := t.catchUp p (t.pixelTick l x)) hl hx
  rw [catchUp_pixelTick] at hpaint
  rw [← catchUp_catchUp p (c := t.pixelTick l x + 1) (by omega) hnow, read_catchUp_of_not_passed _ hnow hx,
    catchUp_succ p hc]
  · exact hpaint
  · rw [catchUp_pixelTick, catchUp_lastUpdate]
    omega
  · rw [catchUp_screenStart, catchUp_lastUpdate]
    omega

/-- R285: LineState when a pixel is painted is the snapshot exactly if the catch-up also processed the start of its line. -/
theorem catchUp_pixelTick_line (p : Params) (hx : x < frameWidth) (hc : t.lastUpdate ≤ t.pixelTick l x) :
    (t.catchUp p (t.pixelTick l x)).line =
      if t.lastUpdate ≤ t.screenStart + l * horizontalTicks then t.snapshot else t.line := by
  split
  next hstart =>
    refine catchUp_line_of_exists p ⟨_, hstart, ?_, ?_⟩
    · simp only [pixelTick, hblank]
      omega
    · simp only [hpos, horizontalTicks]
      omega
  next hstart =>
    refine catchUp_line_of_forall p fun c hle hlt => ?_
    simp only [pixelTick, hpos, frameWidth, horizontalTicks, hblank] at *
    omega

end

end Tia

end Sys2Proof.Machine

open Sys2Proof Sys2Proof.Machine

/-- Settles O49: the catch-up is the iteration of `Tia.tick`, and `Tia.tick_eq` is what a tick does. -/
theorem catchUpIsTickByTick : Obligations.CatchUpIsTickByTick := by
  unfold Obligations.CatchUpIsTickByTick
  intro p t c d h l x
  refine ⟨t.catchUp_self p, Tia.catchUp_succ p, Tia.catchUp_catchUp p, ?_⟩
  rintro hh hl hx
  have hh : t.hpos c = h := hh.symm
  have hl : t.lineOf c = l := hl.symm
  have hx : h - hblank = x := hx.symm
  have hlatch : t.latchAt x = if bitOf t.vblank 1 = false then updateCollisions (t.hits x) t.latch else t.latch := by
    rw [Tia.latchAt, Tia.blanked]
    cases bitOf t.vblank 1 <;> rfl
  rw [Tia.tick_eq, hh, hl, hx, hlatch, ite_and, ite_and]
  rfl

/-- Settles O50: the pixels passed are painted in the colour of their tick, and the others are left. -/
theorem catchUpPaintsExactlyThePassedPixels : Obligations.CatchUpPaintsExactlyThePassedPixels := by
  unfold Obligations.CatchUpPaintsExactlyThePassedPixels
  intro p t now l x tick hs hnow hl hx htick
  have htick : tick = t.pixelTick l x := htick
  subst htick
  refine ⟨fun hle hlt => ?_, Tia.read_catchUp_of_not_passed hs hnow hx⟩
  refine (Tia.read_catchUp_of_passed hs hl hx hle hlt).trans ?_
  rw [Tia.catchUp_colourAt, Tia.catchUp_pixelTick_line p hx hle]
  rfl

/-- Settles O51: each tick takes the snapshot exactly at beam position 0. -/
theorem lineStateIsOfTheLineStart : Obligations.LineStateIsOfTheLineStart := by
  unfold Obligations.LineStateIsOfTheLineStart
  exact fun p t now => ⟨Tia.catchUp_line_of_exists p, Tia.catchUp_line_of_forall p⟩

end

section
/-! PROOF. The pixels of the video-timing engine (48_tia_video_timing.md, R286 to R294): the object scanlines, the
compositor and the collision latches, in plain arithmetic. -/

namespace Sys2Proof.Machine

/-! Register fields as numbers. -/

theorem toNat_and_seven (v : Byte) : (v &&& 7).toNat = v.toNat % 8 := Nat.and_two_pow_sub_one_eq_mod v.toNat 3

theorem toNat_nibblePair (v : Byte) : (v.extractLsb' 4 2).toNat = v.toNat / 16 % 4 := by
  rw [BitVec.extractLsb'_toNat, Nat.shiftRight_eq_div_pow]

theorem bitOf_two (v : Byte) : bitOf v 2 = decide (4 ≤ v.toNat % 8) := bitOf_eq v 2

/-- R289: the copies of an object, as a table over `nusiz[2:0]`. -/
theorem copyOffsets_eq (v : Byte) : copyOffsets v =
    ([[0], [0, 16], [0, 32], [0, 16, 32], [0, 64], [0], [0, 32, 64], [0]] : List (List Nat)).getD (v.toNat % 8) [] := by
  have hk : v.toNat % 8 < 8 := Nat.mod_lt _ (by decide)
  rw [copyOffsets, toNat_and_seven]
  generalize v.toNat % 8 = k at hk
  interval_cases k <;> rfl

theorem pixelSize_eq (v : Byte) : pixelSize v = if v.toNat % 8 = 5 then 2 else if v.toNat % 8 = 7 then 4 else 1 := by
  have hk : v.toNat % 8 < 8 := Nat.mod_lt _ (by decide)
  rw [pixelSize, toNat_and_seven]
  generalize v.toNat % 8 = k at hk
  interval_cases k <;> rfl

theorem objectWidth_eq (v : Byte) : objectWidth v = 2 ^ (v.toNat / 16 % 4) := by rw [objectWidth, toNat_nibblePair]

/-! Object scanlines (R288 to R292). -/

section
variable (t : Tia) (n : Side) (x : Nat)

theorem Tia.graphics_eq :
    t.graphics n = if (t.vdelp.get n).toNat % 2 = 1 then t.grpOld.get n else t.grp.get n := by
  simp only [Tia.graphics, bitOf_zero, decide_eq_true_eq]

/-- R288: PF1 holds bits 4 to 11, bit 7 first. -/
theorem playfieldBit_eq (b : Nat) : playfieldBit t b = if b < 4 then t.pf0.getLsbD (4 + b)
    else if b < 12 then t.pf1.getLsbD (11 - b) else t.pf2.getLsbD (b - 12) := by
  by_cases hb : b < 4
  · rw [playfieldBit, if_pos hb, if_pos hb, bitOf]
  · have hpf1 : 7 - (b - 4) = 11 - b := by omega
    rw [playfieldBit, if_neg hb, if_neg hb, hpf1]
    rfl

theorem Tia.playfield_eq : t.playfield x =
    playfieldBit t (if x / 4 < 20 then x / 4 else if t.ctrlpf.toNat % 2 = 1 then 39 - x / 4 else x / 4 - 20) := by
  simp only [Tia.playfield, playfieldIndex, bitOf_zero, decide_eq_true_eq]

/-- R289: a player covers `x` exactly if some copy, graphic pixel and sub-pixel does. -/
theorem Tia.player_iff : t.player n x = true ↔ ∃ o ∈ copyOffsets (t.nusiz.get n), ∃ j sub, j < 8 ∧
    sub < pixelSize (t.nusiz.get n) ∧ x = (t.resp.get n + o + j * pixelSize (t.nusiz.get n) + sub) % 160 ∧
    (t.graphics n).getLsbD (if (t.refp.get n).getLsbD 3 then j else 7 - j) = true := by
  simp only [Tia.player, Tia.graphicPixel, bitOf, frameWidth, List.any_eq_true, List.mem_range, Bool.and_eq_true, beq_iff_eq]
  tauto

/-- R290: a missile covers `x` exactly if it is enabled, not locked, and some copy and sub-pixel does. -/
theorem Tia.missile_iff : t.missile n x = true ↔ (t.enam.get n).getLsbD 1 = true ∧ (t.resmp.get n).getLsbD 1 = false ∧
    ∃ o ∈ copyOffsets (t.nusiz.get n), ∃ sub, sub < objectWidth (t.nusiz.get n) ∧
      x = (t.resm.get n + o + sub) % 160 := by
  simp only [Tia.missile, Tia.missileEnabled, bitOf, frameWidth, List.any_eq_true, List.mem_range, Bool.and_eq_true,
    Bool.not_eq_true', beq_iff_eq, and_assoc]

/-- R291: the ball covers `x` exactly if it is enabled and some sub-pixel does. -/
theorem Tia.ball_iff : t.ball x = true ↔
    (if t.vdelbl.toNat % 2 = 1 then t.enablOld else t.enabl).getLsbD 1 = true ∧
      ∃ sub, sub < objectWidth t.ctrlpf ∧ x = (t.resbl + sub) % 228 := by
  have henabled : t.ballEnabled = (if t.vdelbl.toNat % 2 = 1 then t.enablOld else t.enabl).getLsbD 1 := by
    simp only [Tia.ballEnabled, bitOf_zero t.vdelbl, decide_eq_true_eq]
    rfl
  simp only [Tia.ball, henabled, horizontalTicks, List.any_eq_true, List.mem_range, Bool.and_eq_true, beq_iff_eq]

end

/-- R286: of a list of groups, the colour of the first one hit. -/
theorem firstHit_cons (g : Bool × Byte) (gs : List (Bool × Byte)) (background : Byte) :
    (((g :: gs).filter Prod.fst).map Prod.snd).headD background =
      if g.1 then g.2 else ((gs.filter Prod.fst).map Prod.snd).headD background := by
  obtain ⟨hit, colour⟩ := g
  cases hit <;> rfl

/-- R293: setting a latch bit on a hit. -/
theorem latchIf_eq (hit : Bool) (mask v : Byte) : latchIf hit mask v = v ||| if hit then mask else 0 := by
  cases hit
  · exact BitVec.or_zero.symm
  · rfl

end Sys2Proof.Machine

open Sys2Proof Sys2Proof.Machine

/-- Settles O54: each scanline by its rule, with the register fields as numbers. -/
theorem objectScanlines : Obligations.ObjectScanlines := by
  unfold Obligations.ObjectScanlines
  intro t x _
  refine ⟨?_, ?_, ?_⟩
  · rintro i b rfl rfl
    rw [Tia.playfield_eq, playfieldBit_eq]
  · rintro n k size offsets g rfl rfl rfl rfl
    rw [Tia.player_iff, Tia.missile_iff, copyOffsets_eq, pixelSize_eq, objectWidth_eq, Tia.graphics_eq]
    exact ⟨Iff.rfl, Iff.rfl⟩
  · rw [Tia.ball_iff, objectWidth_eq]

/-- Settles O52: one hit by `latchIf_eq`, and the sweep by evaluation. -/
theorem collisionLatchBits : Obligations.CollisionLatchBits := by
  unfold Obligations.CollisionLatchBits
  refine ⟨fun h c => ?_, by decide⟩
  simp only [updateCollisions, latchIf_eq]

/-- Settles O53: by the group that is hit first in either order. -/
theorem compositeFollowsPriority : Obligations.CompositeFollowsPriority := by
  unfold Obligations.CompositeFollowsPriority
  rintro h ls field front back rfl rfl rfl
  simp only [composite, bitOf_two, decide_eq_true_eq]
  split
  · simp only [firstHit_cons]
    rfl
  · simp only [firstHit_cons]
    rfl

end

section
/-! PROOF. The position strobes, HMOVE, WSYNC and VSYNC (48_tia_video_timing.md, R296 to R301), in terms of the beam
position of the write. -/

namespace Sys2Proof.Machine

/-- R296, R297: a strobe after the catch-up sees the beam position of the write. -/
theorem strobePosition_catchUp (p : Params) (t : Tia) (c offset width : Nat) :
    strobePosition ((t.catchUp p c).hpos c) offset width =
      if (c - t.screenStart) % 228 < 68 then 3 else ((c - t.screenStart) % 228 - 68 + offset) % width := by
  rw [Tia.catchUp_hpos]
  rfl

/-- R298: the high nibble as a signed 4-bit value. -/
theorem motionNibble_eq (m : Byte) :
    motionNibble m = if m.toNat / 16 < 8 then (m.toNat / 16 : Int) else (m.toNat / 16 : Int) - 16 := by
  have hm := m.isLt
  have hn : (m.extractLsb' 4 4).toNat = m.toNat / 16 := by
    rw [BitVec.extractLsb'_toNat, Nat.shiftRight_eq_div_pow]
    omega
  rw [motionNibble, BitVec.toInt_eq_toNat_cond, hn]
  split_ifs <;> omega

section
variable (p : Params) (t : Tia) (c n : Nat)

theorem Tia.catchUp_hmoveExtra : (t.catchUp p c).hmoveExtra n = t.hmoveExtra n := by
  rw [hmoveExtra, hmoveExtra, cycleOf, cycleOf, catchUp_hpos]

theorem Tia.catchUp_wsyncClock : (t.catchUp p c).wsyncClock n = t.wsyncClock n := by
  rw [wsyncClock, wsyncClock, catchUp_hpos]

theorem Tia.catchUp_frameOrigin : (t.catchUp p c).frameOrigin n = t.frameOrigin n := by
  rw [frameOrigin, frameOrigin, catchUp_hpos]

/-- R301: WSYNC ends on a scanline boundary. -/
theorem Tia.hpos_wsyncClock : t.hpos (t.wsyncClock c) = 0 := by
  unfold wsyncClock
  split
  · assumption
  next h =>
    simp only [hpos, horizontalTicks] at h ⊢
    omega

end

/-- R301: on a boundary WSYNC leaves the Clock. -/
theorem Tia.wsyncClock_of_hpos {t : Tia} {c : Nat} (h : t.hpos c = 0) : t.wsyncClock c = c := if_pos h

/-- R244, R301: a write to WSYNC. -/
theorem busWrite_wsync {addr : Addr} {port : Nat} (h : route addr = some (.tia 0x02 port)) (v : Byte) (s : State) :
    busWrite addr v s = .next { s.tiaWritten (s.tia.catchUp s.params s.clock) with clock := s.tia.wsyncClock s.clock } := by
  rw [busWrite_tiaReg (r := .wsync) rfl h, ← Tia.catchUp_wsyncClock s.params s.tia s.clock]
  rfl

/-- R242, R300: a write to VSYNC. -/
theorem busWrite_vsync {addr : Addr} {port : Nat} (h : route addr = some (.tia 0x00 port)) (v : Byte) (s : State) :
    busWrite addr v s = .next (writeVsync v s.catchUp).audioStep := by
  rw [busWrite_tiaReg (r := .vsync) rfl h]
  rfl

end Sys2Proof.Machine

open Sys2Proof Sys2Proof.Machine

/-- Settles O56: `Tia.write` of each strobe, at the beam position that the catch-up leaves. -/
theorem resetStrobesSetPositions : Obligations.ResetStrobesSetPositions := by
  unfold Obligations.ResetStrobesSetPositions
  rintro s addr port h v t rfl rfl
  simp only [← strobePosition_catchUp s.params]
  exact ⟨busWrite_actsOnTia (.resp .zero) rfl rfl, busWrite_actsOnTia (.resp .one) rfl rfl,
    busWrite_actsOnTia (.resm .zero) rfl rfl, busWrite_actsOnTia (.resm .one) rfl rfl, busWrite_actsOnTia .resbl rfl rfl⟩

/-- Settles O57: `Tia.hmove`, whose delta is the motion nibble and the extra shift at the beam position of the write. -/
theorem hmoveMovesByLineState : Obligations.HmoveMovesByLineState := by
  unfold Obligations.HmoveMovesByLineState
  rintro s addr port v t extra delta hr rfl rfl hdelta
  have hextra := Tia.catchUp_hmoveExtra s.params s.tia s.clock s.clock
  have hd : ∀ m, motionNibble m + (s.tia.catchUp s.params s.clock).hmoveExtra s.clock = delta m := fun m => by
    rw [hdelta, motionNibble_eq, hextra]
    rfl
  rw [busWrite_actsOnTia .hmove rfl rfl hr]
  simp only [Tia.write, Tia.hmove, hd]
  rfl

/-- Settles O58: `Tia.wsyncClock` is the next boundary, on which a second WSYNC stays. -/
theorem wsyncStallsToTheBoundary : Obligations.WsyncStallsToTheBoundary := by
  unfold Obligations.WsyncStallsToTheBoundary
  rintro s addr port h v w hr rfl
  have hb := Tia.hpos_wsyncClock s.tia s.clock
  refine ⟨_, busWrite_wsync hr v s, rfl, ?_, _, busWrite_wsync hr w _, ?_⟩
  · exact (Tia.catchUp_hpos s.params s.tia s.clock _).trans hb
  · exact (Tia.catchUp_wsyncClock s.params s.tia s.clock _).trans (Tia.wsyncClock_of_hpos hb)

/-- Settles O59: by bit 1 of the byte and `is_vsync`, which the catch-up leaves. -/
theorem vsyncStateMachine : Obligations.VsyncStateMachine := by
  unfold Obligations.VsyncStateMachine
  rintro s addr port v t hr rfl
  have hv : s.catchUp.tia.isVsync = s.tia.isVsync := Tia.catchUp_isVsync s.params s.clock s.tia
  have ho : s.catchUp.tia.frameOrigin s.catchUp.clock = s.tia.frameOrigin s.clock :=
    Tia.catchUp_frameOrigin s.params s.tia s.clock s.clock
  rw [busWrite_vsync hr, writeVsync, bitOf_one, hv, ho]
  simp only [decide_eq_true_eq]
  refine ⟨fun hon hs => ?_, fun hoff hs => ?_, fun hsame => ?_⟩
  · rw [if_pos hon, if_neg (Bool.eq_false_iff.mp hs)]
    rfl
  · rw [if_neg (Nat.not_le.mpr hoff), if_pos hs]
    rfl
  · by_cases hon : 2 ≤ v.toNat % 4
    · rw [if_pos hon, if_pos (hsame.mp hon)]
      rfl
    · rw [if_neg hon, if_neg (mt hsame.mpr hon)]
      rfl

end

section
/-! PROOF. Power-on, load and `reset()` (70_reset_and_hazards.md). -/

namespace Sys2Proof.Machine

/-! `reset()` (R354). -/

theorem route_resetVector : route 0xFFFC = some (.cart 0xFFC) ∧ route 0xFFFD = some (.cart 0xFFD) := by decide

/-- R354, R44: the two reads of `reset()`, low byte first. -/
theorem applyReset_eq (s : State) : applyReset s =
    andThen (busRead 0xFFFC s) fun lo => andThen (busRead 0xFFFD lo.2) fun hi =>
      .next { s with pc := BitVec.ofNat 16 (256 * hi.1.toNat + lo.1.toNat) } := by
  simp only [applyReset, busRead16, andThen_assoc, andThen_next, joinBytes_eq_ofNat]
  rfl

/-- R354: an answer of `reset()` differs in `PC` only. -/
theorem applyReset_eq_next {s t : State} (h : applyReset s = .next t) : ∃ pc, t = s.setPc pc := by
  obtain ⟨v, -, h⟩ := andThen_eq_next h
  cases h
  exact ⟨v.1, rfl⟩

/-- R354, R51: `PC` comes from the storage bytes at the vector. -/
theorem applyReset_of_peek {s : State} {lo hi : Byte} (hlo : s.peek 0xFFFC = some lo) (hhi : s.peek 0xFFFD = some hi) :
    applyReset s = .next { s with pc := BitVec.ofNat 16 (256 * hi.toNat + lo.toNat) } := by
  simp only [applyReset_eq, busRead_storage hlo, busRead_storage hhi, andThen_next]

/-! Loading leaves RAM (R50, R51). -/

theorem Memory.read_filter {q : Host.Cell → Bool} {a : Nat} (hq : ∀ b, q (a, b) = true) (m : Memory) :
    Memory.read (m.filter q) a = Memory.read m a := by
  induction m with
  | nil => rfl
  | cons c m ih =>
    obtain ⟨k, b⟩ := c
    by_cases hk : k = a
    · subst hk
      rw [List.filter_cons_of_pos (hq b), Memory.read, Memory.read, if_pos rfl, if_pos rfl]
    · rw [Memory.read, if_neg hk, ← ih, List.filter_cons]
      split
      · rw [Memory.read, if_neg hk]
      · rfl

theorem Memory.read_append {m' : Memory} {a : Nat} (h : ∀ c ∈ m', c.1 ≠ a) (m : Memory) :
    Memory.read (m ++ m') a = Memory.read m a := by
  induction m with
  | nil =>
    induction m' with
    | nil => rfl
    | cons c m' ih =>
      exact (if_neg (h c (.head _))).trans (ih fun d hd => h d (.tail _ hd))
  | cons c m ih => rw [List.cons_append, Memory.read, Memory.read, ih]

/-- R49: a loaded image has ROM keys only. -/
theorem romCells_keys {image : List Byte} {c : Host.Cell} (h : c ∈ romCells image) : ∃ o, c.1 = romKey o := by
  obtain ⟨o, -, ho⟩ := List.mem_filterMap.mp h
  split at ho
  · cases ho
  · cases ho
    exact ⟨o, rfl⟩

theorem read_ramKey_filter {k : Nat} (hk : k < 0x80) (m : Memory) :
    Memory.read (m.filter fun c => c.1 < 0x1000) (ramKey k) = Memory.read m (ramKey k) :=
  Memory.read_filter (fun _ => decide_eq_true (by simp only [ramKey]; omega)) m

theorem read_ramKey_append_romCells {k : Nat} (hk : k < 0x80) (m : Memory) (image : List Byte) :
    Memory.read (m ++ romCells image) (ramKey k) = Memory.read m (ramKey k) :=
  Memory.read_append (fun c hc => by
    obtain ⟨o, ho⟩ := romCells_keys hc
    rw [ho]
    exact (ramKey_ne_romKey hk o).symm) m

/-- R50, R51, R353: a load that answers replaces ROM or makes the `CartState` of another cartridge, and leaves the rest. -/
theorem load_eq_next {image : List Byte} {s t : State} (h : load image s = .next t) :
    t = { s with mem := t.mem, cart := t.cart } ∧ (s.params.cart = .singleBank → t.cart = s.cart) ∧
      ∀ k < 0x80, Memory.read t.mem (ramKey k) = Memory.read s.mem (ramKey k) := by
  unfold load at h
  split at h
  · cases h
  split at h
  next hc =>
    unfold loadSingleBank at h
    split at h <;> cases h
    refine ⟨rfl, fun _ => rfl, fun k hk => ?_⟩
    exact (read_ramKey_append_romCells hk _ image).trans (read_ramKey_filter hk s.mem)
  next j hc =>
    cases h
    exact ⟨rfl, fun hs => (by rw [hc] at hs; cases hs), fun _ _ => rfl⟩

/-- R350: a launch that answers is power-on but for `PC`, memory and `CartState`. -/
theorem launch_eq_next {p : Params} {u t : State} {image : List Byte} (h : launch p u image = .next t) :
    t = { State.atPowerOn p u with pc := t.pc, mem := t.mem, cart := t.cart } ∧
      (p.cart = .singleBank → t.cart = []) ∧
      ∀ k < 0x80, Memory.read t.mem (ramKey k) = Memory.read u.mem (ramKey k) := by
  obtain ⟨l, hl, h⟩ := andThen_eq_next h
  obtain ⟨pc, rfl⟩ := applyReset_eq_next h
  obtain ⟨hl, hcart, hram⟩ := load_eq_next hl
  refine ⟨?_, hcart, fun k hk => (hram k hk).trans (read_ramKey_filter hk u.mem)⟩
  conv_lhs => rw [hl]
  rfl

/-- R356: the positions at power-on are in range. -/
theorem Tia.atPowerOn_positionsOk (t : Tia) : t.atPowerOn.PositionsOk :=
  ⟨Nat.mod_lt _ (by decide), Nat.mod_lt _ (by decide), Nat.mod_lt _ (by decide), Nat.mod_lt _ (by decide),
    Nat.mod_lt _ (by decide)⟩

end Sys2Proof.Machine

open Sys2Proof Sys2Proof.Machine

/-- Settles O8: the power-on TIA and empty memory, by evaluation. -/
theorem resetStateMeetsInvariant : Obligations.ResetStateMeetsInvariant := by
  unfold Obligations.ResetStateMeetsInvariant
  have hpositions : State.reset.tia.PositionsOk := by
    unfold Tia.PositionsOk
    decide
  exact { memory := rfl, tia := ⟨hpositions, Latches.zeros_ok, ⟨rfl, rfl⟩, rfl⟩, beam := ⟨Nat.le_refl _, Nat.le_refl _, rfl⟩ }

/-- Settles O17: `reset()` by its two reads, and a launch by what power-on fixes and load leaves. -/
theorem resetLoadsVector : Obligations.ResetLoadsVector := by
  unfold Obligations.ResetLoadsVector
  refine ⟨fun s => ⟨applyReset_eq s, ?_, fun hc => ?_⟩, fun p u t image h => ?_, applyReset_powerOn⟩
  · rcases applyReset_cases s with ⟨lo, hi, _, _, _, _, h⟩ | h
    · exact .inl ⟨_, h⟩
    · exact .inr h
  · obtain ⟨hlo, hhi⟩ := route_resetVector
    have hlo := State.peek_rom hc hlo
    have hhi := State.peek_rom hc hhi
    exact ⟨_, _, hlo, hhi, applyReset_of_peek hlo hhi⟩
  · obtain ⟨ht, hcart, hram⟩ := launch_eq_next h
    generalize t.pc = pc, t.mem = mem, t.cart = cart at ht hcart hram
    subst ht
    refine ⟨⟨rfl, rfl, rfl, rfl, rfl, rfl, u.tia.atPowerOn_positionsOk, hcart⟩, rfl, rfl, rfl, rfl, rfl, rfl, ?_, hram⟩
    rintro c rfl
    rfl

end
